-- ==== Sys2Proof/Word.lean ====
section
/-! DEFINITION. The words of the block: register words, event masks, and the two words that carry encodings. -/

namespace Sys2Proof

/-- A register of the block: 32 bits (R10). Read unsigned for `u32` and `uq16`, by `toInt` for `s32` and `q16`. -/
abbrev Word := BitVec 32

/-- A mask over the thirteen `EVENT` bits (R34). -/
abbrev Events := BitVec 13

/-- The 42-bit transaction word `TW = {V, W, A[7:0], D[31:0]}` of format B (R111). -/
abbrev TransWord := BitVec 42

/-- The 10-bit pin vector `PV = {rst, zc_in, btn[4:0], flag_in[2:0]}` of format E (R110). -/
abbrev PinWord := BitVec 10

end Sys2Proof
end

