-- ==== Sys2Proof/Syntax.lean ====
section
/-! DEFINITION. The operations of the block, one constructor for each row of spec/opcode_table.json, in the table's order,
and the three forms in which an operation is presented (R110). -/

namespace Sys2Proof

/-- The 107 operations. An operand is what the row's encoding carries and the rule uses or names: `d` is `D[31:0]`; `w`
is `W`; `a` is `A[7:2]`; `b` is `A[1:0]`; `p` is the level of the button's pin; `f` is `flag_in[2:0]`. Reads and `NOP` take no
operand: the other fields of their words are ignored (R142, R170). -/
inductive Instr where
  -- Format B: no operation (R142).
  | nop  -- NOP, R142
  -- Format B: the 39 reads (R170 to R209).
  | rdCtrl  -- RD.CTRL, R171
  | rdStatus  -- RD.STATUS, R172
  | rdEvent  -- RD.EVENT, R173
  | rdIrqEn  -- RD.IRQ_EN, R174
  | rdNow  -- RD.NOW, R175
  | rdLastCross  -- RD.LAST_CROSS, R176
  | rdPeriod  -- RD.PERIOD, R177
  | rdFireDelay  -- RD.FIRE_DELAY, R178
  | rdDlyCnt  -- RD.DLY_CNT, R179
  | rdGuard  -- RD.GUARD, R180
  | rdZcTimeout  -- RD.ZC_TIMEOUT, R181
  | rdZcSilence  -- RD.ZC_SILENCE, R182
  | rdTemp  -- RD.TEMP, R183
  | rdSetpoint  -- RD.SETPOINT, R184
  | rdSpStep  -- RD.SP_STEP, R185
  | rdSpMin  -- RD.SP_MIN, R186
  | rdSpMax  -- RD.SP_MAX, R187
  | rdQ0  -- RD.Q0, R188
  | rdQ1  -- RD.Q1, R189
  | rdQ2  -- RD.Q2, R190
  | rdE1  -- RD.E1, R191
  | rdE2  -- RD.E2, R192
  | rdPidOut  -- RD.PID_OUT, R193
  | rdPidRaw  -- RD.PID_RAW, R194
  | rdTs  -- RD.TS, R195
  | rdTsCnt  -- RD.TS_CNT, R196
  | rdSampleCount  -- RD.SAMPLE_COUNT, R197
  | rdPidCmd  -- RD.PID_CMD, R198
  | rdDbWindow  -- RD.DB_WINDOW, R199
  | rdBtnPol  -- RD.BTN_POL, R200
  | rdDbHold0  -- RD.DB_HOLD0, R201
  | rdDbHold1  -- RD.DB_HOLD1, R202
  | rdDbHold2  -- RD.DB_HOLD2, R203
  | rdDbHold3  -- RD.DB_HOLD3, R204
  | rdDbHold4  -- RD.DB_HOLD4, R205
  | rdMotion  -- RD.MOTION, R206
  | rdStepHalf  -- RD.STEP_HALF, R207
  | rdStepCnt  -- RD.STEP_CNT, R208
  | rdFlagRx  -- RD.FLAG_RX, R209
  -- Format B: the 19 writes and the 20 `WR.RO` error forms, in address order (R141 to R162).
  | wrCtrl (d : Word)  -- WR.CTRL, R141
  | wrRoStatus (d : Word)  -- WR.RO.STATUS, R162
  | wrEvent (d : Word)  -- WR.EVENT, R143
  | wrIrqEn (d : Word)  -- WR.IRQ_EN, R144
  | wrRoNow (d : Word)  -- WR.RO.NOW, R162
  | wrRoLastCross (d : Word)  -- WR.RO.LAST_CROSS, R162
  | wrRoPeriod (d : Word)  -- WR.RO.PERIOD, R162
  | wrFireDelay (d : Word)  -- WR.FIRE_DELAY, R146
  | wrRoDlyCnt (d : Word)  -- WR.RO.DLY_CNT, R162
  | wrGuard (d : Word)  -- WR.GUARD, R147
  | wrZcTimeout (d : Word)  -- WR.ZC_TIMEOUT, R148
  | wrRoZcSilence (d : Word)  -- WR.RO.ZC_SILENCE, R162
  | wrTemp (d : Word)  -- WR.TEMP, R149
  | wrSetpoint (d : Word)  -- WR.SETPOINT, R150
  | wrSpStep (d : Word)  -- WR.SP_STEP, R151
  | wrSpMin (d : Word)  -- WR.SP_MIN, R152
  | wrSpMax (d : Word)  -- WR.SP_MAX, R153
  | wrQ0 (d : Word)  -- WR.Q0, R154
  | wrQ1 (d : Word)  -- WR.Q1, R155
  | wrQ2 (d : Word)  -- WR.Q2, R156
  | wrRoE1 (d : Word)  -- WR.RO.E1, R162
  | wrRoE2 (d : Word)  -- WR.RO.E2, R162
  | wrRoPidOut (d : Word)  -- WR.RO.PID_OUT, R162
  | wrRoPidRaw (d : Word)  -- WR.RO.PID_RAW, R162
  | wrTs (d : Word)  -- WR.TS, R157
  | wrRoTsCnt (d : Word)  -- WR.RO.TS_CNT, R162
  | wrRoSampleCount (d : Word)  -- WR.RO.SAMPLE_COUNT, R162
  | wrPidCmd (d : Word)  -- WR.PID_CMD, R160
  | wrDbWindow (d : Word)  -- WR.DB_WINDOW, R158
  | wrBtnPol (d : Word)  -- WR.BTN_POL, R159
  | wrRoDbHold0 (d : Word)  -- WR.RO.DB_HOLD0, R162
  | wrRoDbHold1 (d : Word)  -- WR.RO.DB_HOLD1, R162
  | wrRoDbHold2 (d : Word)  -- WR.RO.DB_HOLD2, R162
  | wrRoDbHold3 (d : Word)  -- WR.RO.DB_HOLD3, R162
  | wrRoDbHold4 (d : Word)  -- WR.RO.DB_HOLD4, R162
  | wrRoMotion (d : Word)  -- WR.RO.MOTION, R162
  | wrStepHalf (d : Word)  -- WR.STEP_HALF, R161
  | wrRoStepCnt (d : Word)  -- WR.RO.STEP_CNT, R162
  | wrRoFlagRx (d : Word)  -- WR.RO.FLAG_RX, R162
  -- Format B: the two address errors (R163, R164).
  | busUnmapped (w : Bool) (a : BitVec 6) (d : Word)  -- BUS.UNMAPPED, R163
  | busMisaligned (w : Bool) (a : BitVec 6) (b : BitVec 2) (d : Word)  -- BUS.MISALIGNED, R164
  -- Format E: pin events (R115).
  | rst  -- RST, R370
  | zcRise  -- ZC.RISE, R232
  | btn0Edge (p : Bool)  -- BTN0.EDGE, R311
  | btn1Edge (p : Bool)  -- BTN1.EDGE, R312
  | btn2Edge (p : Bool)  -- BTN2.EDGE, R313
  | btn3Edge (p : Bool)  -- BTN3.EDGE, R297
  | btn4Edge (p : Bool)  -- BTN4.EDGE, R297
  | flaginSample (f : BitVec 3)  -- FLAGIN.SAMPLE, R318
  -- Format I: internal events (R116).
  | nowTick  -- NOW.TICK, R31
  | zcOff  -- ZC.OFF, R230
  | dlyCount  -- DLY.COUNT, R237
  | dlyExpire  -- DLY.EXPIRE, R237
  | wdgCount  -- WDG.COUNT, R238
  | wdgFire  -- WDG.FIRE, R238
  | tsCount  -- TS.COUNT, R260
  | tsTick  -- TS.TICK, R260
  | pidSample  -- PID.SAMPLE, R261
  | hold0Dec  -- HOLD0.DEC, R295
  | hold1Dec  -- HOLD1.DEC, R295
  | hold2Dec  -- HOLD2.DEC, R295
  | hold3Dec  -- HOLD3.DEC, R295
  | hold4Dec  -- HOLD4.DEC, R295
  | stepCount  -- STEP.COUNT, R316
  | stepFall  -- STEP.FALL, R316
  | stepRise  -- STEP.RISE, R316
  | stepIdle  -- STEP.IDLE, R316
  deriving DecidableEq, Repr

/-- How an operation is presented to the block (R110): by a transaction word, by the pins, or by the state alone. -/
inductive Encoding where
  | bus (tw : TransWord)   -- format B
  | pins (pv : PinWord)    -- format E
  | internal               -- format I: no input bits
  deriving DecidableEq, Repr

/-- Why a word of bits has no operation of the table. -/
inductive DecodeError where
  | noEncoding       -- no bits at all: the format I rows have no encoding (R116)
  | pinWordTooWide   -- a value beyond the 10 bits of a pin vector
  | busWordTooWide   -- a value beyond the 42 bits of a transaction word
  deriving DecidableEq, Repr

end Sys2Proof
end

