-- ==== Sys2Proof/WellFormed.lean ====
section
/-! DEFINITION. Which operations an input vector can present: the two checks of the address error forms (R113). -/

namespace Sys2Proof

/-- The operand checks of the encoding. `BUS.UNMAPPED` stands for the words with `A[7:2]` in 0x27..0x3F (R163) and
`BUS.MISALIGNED` for those with `A[1:0]` not 00 (R164); every other operand takes every value of its field. -/
def wellFormed : Instr → Bool
  | .busUnmapped _ a _ => decide (0x27#6 ≤ a)
  | .busMisaligned _ _ b _ => b != 0#2
  | .nop | .rdCtrl | .rdStatus | .rdEvent | .rdIrqEn | .rdNow | .rdLastCross | .rdPeriod | .rdFireDelay | .rdDlyCnt
  | .rdGuard | .rdZcTimeout | .rdZcSilence | .rdTemp | .rdSetpoint | .rdSpStep | .rdSpMin | .rdSpMax | .rdQ0 | .rdQ1
  | .rdQ2 | .rdE1 | .rdE2 | .rdPidOut | .rdPidRaw | .rdTs | .rdTsCnt | .rdSampleCount | .rdPidCmd | .rdDbWindow
  | .rdBtnPol | .rdDbHold0 | .rdDbHold1 | .rdDbHold2 | .rdDbHold3 | .rdDbHold4 | .rdMotion | .rdStepHalf | .rdStepCnt
  | .rdFlagRx | .wrCtrl _ | .wrRoStatus _ | .wrEvent _ | .wrIrqEn _ | .wrRoNow _ | .wrRoLastCross _ | .wrRoPeriod _
  | .wrFireDelay _ | .wrRoDlyCnt _ | .wrGuard _ | .wrZcTimeout _ | .wrRoZcSilence _ | .wrTemp _ | .wrSetpoint _
  | .wrSpStep _ | .wrSpMin _ | .wrSpMax _ | .wrQ0 _ | .wrQ1 _ | .wrQ2 _ | .wrRoE1 _ | .wrRoE2 _ | .wrRoPidOut _
  | .wrRoPidRaw _ | .wrTs _ | .wrRoTsCnt _ | .wrRoSampleCount _ | .wrPidCmd _ | .wrDbWindow _ | .wrBtnPol _
  | .wrRoDbHold0 _ | .wrRoDbHold1 _ | .wrRoDbHold2 _ | .wrRoDbHold3 _ | .wrRoDbHold4 _ | .wrRoMotion _
  | .wrStepHalf _ | .wrRoStepCnt _ | .wrRoFlagRx _ | .rst | .zcRise | .btn0Edge _ | .btn1Edge _ | .btn2Edge _
  | .btn3Edge _ | .btn4Edge _ | .flaginSample _ | .nowTick | .zcOff | .dlyCount | .dlyExpire | .wdgCount | .wdgFire
  | .tsCount | .tsTick | .pidSample | .hold0Dec | .hold1Dec | .hold2Dec | .hold3Dec | .hold4Dec | .stepCount
  | .stepFall | .stepRise | .stepIdle => true

end Sys2Proof
end

