-- ==== Sys2Proof/Decode.lean ====
section
/-! DEFINITION. Decoding: the transaction word of format B (R111, R113), the pin vector of format E (R110, R115), and one table word as
the opcode table numbers its bits; after it the encoder, written from the same encodings. -/

namespace Sys2Proof

/-- `V = TW[41]` (R111). -/
def twValid (tw : TransWord) : Bool := tw.getLsbD 41

/-- `W = TW[40]` (R111). -/
def twWrite (tw : TransWord) : Bool := tw.getLsbD 40

/-- `A = TW[39:32]` (R111). -/
def twAddr (tw : TransWord) : BitVec 8 := tw.extractLsb' 32 8

/-- `D = TW[31:0]` (R111). -/
def twData (tw : TransWord) : Word := tw.extractLsb' 0 32

/-- `RD.<name>` for the 39 registers, in the order of their addresses 0x00, 0x04, .., 0x98 (R30, R113). -/
def readOps : List Instr :=
  [.rdCtrl, .rdStatus, .rdEvent, .rdIrqEn, .rdNow, .rdLastCross, .rdPeriod, .rdFireDelay, .rdDlyCnt, .rdGuard,
   .rdZcTimeout, .rdZcSilence, .rdTemp, .rdSetpoint, .rdSpStep, .rdSpMin, .rdSpMax, .rdQ0, .rdQ1, .rdQ2, .rdE1, .rdE2,
   .rdPidOut, .rdPidRaw, .rdTs, .rdTsCnt, .rdSampleCount, .rdPidCmd, .rdDbWindow, .rdBtnPol, .rdDbHold0, .rdDbHold1,
   .rdDbHold2, .rdDbHold3, .rdDbHold4, .rdMotion, .rdStepHalf, .rdStepCnt, .rdFlagRx]

/-- `WR.<name>` for the 19 writable registers and `WR.RO.<name>` for the 20 read-only ones, in the order of their addresses
(R30, R113). -/
def writeOps (d : Word) : List Instr :=
  [.wrCtrl d, .wrRoStatus d, .wrEvent d, .wrIrqEn d, .wrRoNow d, .wrRoLastCross d, .wrRoPeriod d, .wrFireDelay d,
   .wrRoDlyCnt d, .wrGuard d, .wrZcTimeout d, .wrRoZcSilence d, .wrTemp d, .wrSetpoint d, .wrSpStep d, .wrSpMin d,
   .wrSpMax d, .wrQ0 d, .wrQ1 d, .wrQ2 d, .wrRoE1 d, .wrRoE2 d, .wrRoPidOut d, .wrRoPidRaw d, .wrTs d, .wrRoTsCnt d,
   .wrRoSampleCount d, .wrPidCmd d, .wrDbWindow d, .wrBtnPol d, .wrRoDbHold0 d, .wrRoDbHold1 d, .wrRoDbHold2 d,
   .wrRoDbHold3 d, .wrRoDbHold4 d, .wrRoMotion d, .wrStepHalf d, .wrRoStepCnt d, .wrRoFlagRx d]

/-- The decode of R113 on the fields of a transaction word: `V` first, then alignment, then the address map. -/
def decodeFields (v w : Bool) (a : BitVec 8) (d : Word) : Instr :=
  if v = false then .nop
  else if a.extractLsb' 0 2 ≠ 0#2 then .busMisaligned w (a.extractLsb' 2 6) (a.extractLsb' 0 2) d
  else if w then ((writeOps d)[(a.extractLsb' 2 6).toNat]?).getD (.busUnmapped w (a.extractLsb' 2 6) d)
  else (readOps[(a.extractLsb' 2 6).toNat]?).getD (.busUnmapped w (a.extractLsb' 2 6) d)

/-- The bus operation of a transaction word. Total: every one of the 2^42 words is an operation (R113). -/
def decodeBus (tw : TransWord) : Instr := decodeFields (twValid tw) (twWrite tw) (twAddr tw) (twData tw)

/-- `rst = PV[9]` (R110). -/
def pvRst (pv : PinWord) : Bool := pv.getLsbD 9

/-- `zc_in = PV[8]` (R110). -/
def pvZc (pv : PinWord) : Bool := pv.getLsbD 8

/-- `btn[4:0] = PV[7:3]` (R110). -/
def pvBtn (pv : PinWord) : BitVec 5 := pv.extractLsb' 3 5

/-- `flag_in[2:0] = PV[2:0]` (R110). -/
def pvFlagIn (pv : PinWord) : BitVec 3 := pv.extractLsb' 0 3

/-- The format E operations a pin vector presents, as far as the pins alone decide it: `rst` first, then each of the others with
its pin's level (R115). The rest of each operation's condition is on the state and stands in its meaning. -/
def decodePins (pv : PinWord) : List Instr :=
  if pvRst pv then [.rst]
  else (if pvZc pv then [.zcRise] else []) ++
    [.btn0Edge ((pvBtn pv).getLsbD 0), .btn1Edge ((pvBtn pv).getLsbD 1), .btn2Edge ((pvBtn pv).getLsbD 2),
      .btn3Edge ((pvBtn pv).getLsbD 3), .btn4Edge ((pvBtn pv).getLsbD 4), .flaginSample (pvFlagIn pv)]

/-- ONE format E operation of a pin vector: the first, in the order of R115, of the pins that are away from their idle level,
and `FLAGIN.SAMPLE`, which every vector with `rst = 0` presents, where none is. DESIGN CHOICE, log 8: a pin vector presents several
operations at once (R110), the opcode table's rows overlap, and a step runs all of `decodePins`. -/
def decodePinHead (pv : PinWord) : Instr :=
  if pvRst pv then .rst
  else if pvZc pv then .zcRise
  else if (pvBtn pv).getLsbD 0 = false then .btn0Edge false
  else if (pvBtn pv).getLsbD 1 = false then .btn1Edge false
  else if (pvBtn pv).getLsbD 2 = false then .btn2Edge false
  else if (pvBtn pv).getLsbD 3 = false then .btn3Edge false
  else if (pvBtn pv).getLsbD 4 = false then .btn4Edge false
  else .flaginSample (pvFlagIn pv)

/-- The operation of a table word of `nbits` bits with value `w`: at most 16 bits hold a pin vector, more hold a transaction word
(log 8). Total; what is no such word is rejected by name. -/
def decode (nbits w : Nat) : Except DecodeError Instr :=
  if nbits = 0 then .error .noEncoding
  else if nbits ≤ 16 then
    if w < 2 ^ 10 then .ok (decodePinHead (BitVec.ofNat 10 w)) else .error .pinWordTooWide
  else if w < 2 ^ 42 then .ok (decodeBus (BitVec.ofNat 42 w)) else .error .busWordTooWide

/-- The operation the decoder reads from a row of the opcode table, numbered as the table numbers its bits. -/
def decodeTableWord (nbits w : Nat) : Option Instr := (decode nbits w).toOption

/-- The transaction word `{1, W, A, D}` (R111). -/
def busWord (w : Bool) (a : BitVec 8) (d : Word) : TransWord := 1#1 ++ BitVec.ofBool w ++ a ++ d

/-- The pin vector `{rst, zc_in, btn, flag_in}` (R110). -/
def pinWord (rst zc : Bool) (btn : BitVec 5) (f : BitVec 3) : PinWord := BitVec.ofBool rst ++ BitVec.ofBool zc ++ btn ++ f

/-- The pin vector whose only pin away from idle can be button `i`, at level `p` (R115, idle levels of R120). -/
def buttonWord (i : Nat) (p : Bool) : PinWord :=
  pinWord false false (if p then 0b11111#5 else 0b11111#5 &&& ~~~(1#5 <<< i)) 0b000#3

/-- The encoding of an operation (R110 to R116): its transaction word, a pin vector that presents it, or none. Bits the
table does not fix are 0 in a transaction word and at the idle level in a pin vector. -/
def encode : Instr → Encoding
  | .nop => .bus 0#42
  | .rdCtrl => .bus (busWord false 0x00#8 0#32)
  | .rdStatus => .bus (busWord false 0x04#8 0#32)
  | .rdEvent => .bus (busWord false 0x08#8 0#32)
  | .rdIrqEn => .bus (busWord false 0x0C#8 0#32)
  | .rdNow => .bus (busWord false 0x10#8 0#32)
  | .rdLastCross => .bus (busWord false 0x14#8 0#32)
  | .rdPeriod => .bus (busWord false 0x18#8 0#32)
  | .rdFireDelay => .bus (busWord false 0x1C#8 0#32)
  | .rdDlyCnt => .bus (busWord false 0x20#8 0#32)
  | .rdGuard => .bus (busWord false 0x24#8 0#32)
  | .rdZcTimeout => .bus (busWord false 0x28#8 0#32)
  | .rdZcSilence => .bus (busWord false 0x2C#8 0#32)
  | .rdTemp => .bus (busWord false 0x30#8 0#32)
  | .rdSetpoint => .bus (busWord false 0x34#8 0#32)
  | .rdSpStep => .bus (busWord false 0x38#8 0#32)
  | .rdSpMin => .bus (busWord false 0x3C#8 0#32)
  | .rdSpMax => .bus (busWord false 0x40#8 0#32)
  | .rdQ0 => .bus (busWord false 0x44#8 0#32)
  | .rdQ1 => .bus (busWord false 0x48#8 0#32)
  | .rdQ2 => .bus (busWord false 0x4C#8 0#32)
  | .rdE1 => .bus (busWord false 0x50#8 0#32)
  | .rdE2 => .bus (busWord false 0x54#8 0#32)
  | .rdPidOut => .bus (busWord false 0x58#8 0#32)
  | .rdPidRaw => .bus (busWord false 0x5C#8 0#32)
  | .rdTs => .bus (busWord false 0x60#8 0#32)
  | .rdTsCnt => .bus (busWord false 0x64#8 0#32)
  | .rdSampleCount => .bus (busWord false 0x68#8 0#32)
  | .rdPidCmd => .bus (busWord false 0x6C#8 0#32)
  | .rdDbWindow => .bus (busWord false 0x70#8 0#32)
  | .rdBtnPol => .bus (busWord false 0x74#8 0#32)
  | .rdDbHold0 => .bus (busWord false 0x78#8 0#32)
  | .rdDbHold1 => .bus (busWord false 0x7C#8 0#32)
  | .rdDbHold2 => .bus (busWord false 0x80#8 0#32)
  | .rdDbHold3 => .bus (busWord false 0x84#8 0#32)
  | .rdDbHold4 => .bus (busWord false 0x88#8 0#32)
  | .rdMotion => .bus (busWord false 0x8C#8 0#32)
  | .rdStepHalf => .bus (busWord false 0x90#8 0#32)
  | .rdStepCnt => .bus (busWord false 0x94#8 0#32)
  | .rdFlagRx => .bus (busWord false 0x98#8 0#32)
  | .wrCtrl d => .bus (busWord true 0x00#8 d)
  | .wrRoStatus d => .bus (busWord true 0x04#8 d)
  | .wrEvent d => .bus (busWord true 0x08#8 d)
  | .wrIrqEn d => .bus (busWord true 0x0C#8 d)
  | .wrRoNow d => .bus (busWord true 0x10#8 d)
  | .wrRoLastCross d => .bus (busWord true 0x14#8 d)
  | .wrRoPeriod d => .bus (busWord true 0x18#8 d)
  | .wrFireDelay d => .bus (busWord true 0x1C#8 d)
  | .wrRoDlyCnt d => .bus (busWord true 0x20#8 d)
  | .wrGuard d => .bus (busWord true 0x24#8 d)
  | .wrZcTimeout d => .bus (busWord true 0x28#8 d)
  | .wrRoZcSilence d => .bus (busWord true 0x2C#8 d)
  | .wrTemp d => .bus (busWord true 0x30#8 d)
  | .wrSetpoint d => .bus (busWord true 0x34#8 d)
  | .wrSpStep d => .bus (busWord true 0x38#8 d)
  | .wrSpMin d => .bus (busWord true 0x3C#8 d)
  | .wrSpMax d => .bus (busWord true 0x40#8 d)
  | .wrQ0 d => .bus (busWord true 0x44#8 d)
  | .wrQ1 d => .bus (busWord true 0x48#8 d)
  | .wrQ2 d => .bus (busWord true 0x4C#8 d)
  | .wrRoE1 d => .bus (busWord true 0x50#8 d)
  | .wrRoE2 d => .bus (busWord true 0x54#8 d)
  | .wrRoPidOut d => .bus (busWord true 0x58#8 d)
  | .wrRoPidRaw d => .bus (busWord true 0x5C#8 d)
  | .wrTs d => .bus (busWord true 0x60#8 d)
  | .wrRoTsCnt d => .bus (busWord true 0x64#8 d)
  | .wrRoSampleCount d => .bus (busWord true 0x68#8 d)
  | .wrPidCmd d => .bus (busWord true 0x6C#8 d)
  | .wrDbWindow d => .bus (busWord true 0x70#8 d)
  | .wrBtnPol d => .bus (busWord true 0x74#8 d)
  | .wrRoDbHold0 d => .bus (busWord true 0x78#8 d)
  | .wrRoDbHold1 d => .bus (busWord true 0x7C#8 d)
  | .wrRoDbHold2 d => .bus (busWord true 0x80#8 d)
  | .wrRoDbHold3 d => .bus (busWord true 0x84#8 d)
  | .wrRoDbHold4 d => .bus (busWord true 0x88#8 d)
  | .wrRoMotion d => .bus (busWord true 0x8C#8 d)
  | .wrStepHalf d => .bus (busWord true 0x90#8 d)
  | .wrRoStepCnt d => .bus (busWord true 0x94#8 d)
  | .wrRoFlagRx d => .bus (busWord true 0x98#8 d)
  | .busUnmapped w a d => .bus (busWord w (a ++ 0#2) d)
  | .busMisaligned w a b d => .bus (busWord w (a ++ b) d)
  | .rst => .pins (pinWord true false 0b11111#5 0b000#3)
  | .zcRise => .pins (pinWord false true 0b11111#5 0b000#3)
  | .btn0Edge p => .pins (buttonWord 0 p)
  | .btn1Edge p => .pins (buttonWord 1 p)
  | .btn2Edge p => .pins (buttonWord 2 p)
  | .btn3Edge p => .pins (buttonWord 3 p)
  | .btn4Edge p => .pins (buttonWord 4 p)
  | .flaginSample f => .pins (pinWord false false 0b11111#5 f)
  | .nowTick | .zcOff | .dlyCount | .dlyExpire | .wdgCount | .wdgFire | .tsCount | .tsTick
  | .pidSample | .hold0Dec | .hold1Dec | .hold2Dec | .hold3Dec | .hold4Dec | .stepCount | .stepFall
  | .stepRise | .stepIdle => .internal

end Sys2Proof
end

