-- ==== Sys2Proof/Config.lean ====
section
/-! DEFINITION. The implementation parameters of R6, at the values the spec takes (log 4), and the idle pin levels of
R120. No value is left open by the spec (R7), so there is no free value. -/

namespace Sys2Proof.Config

/-- `P_U_MAX`: 100.0 in Q15.16, the upper end of the saturation (R6, R264). -/
abbrev uMax : Nat := 6553600

/-- 2^`P_FRAC` with `P_FRAC` = 16: one in Q15.16 (R6, R10). -/
abbrev one : Nat := 65536

/-- `P_DB_WINDOW_RESET` (R6, R371). -/
abbrev dbWindowReset : Word := 200000#32

/-- `P_STEP_HALF_RESET` (R6, R371). -/
abbrev stepHalfReset : Word := 500#32

/-- `P_SP_STEP_RESET`, 1.0 degree (R6, R371). -/
abbrev spStepReset : Word := 0x00010000#32

/-- `P_SP_MIN_RESET`, −2^31 (R6, R371). -/
abbrev spMinReset : Word := 0x80000000#32

/-- `P_SP_MAX_RESET`, 2^31 − 1 (R6, R371). -/
abbrev spMaxReset : Word := 0x7FFFFFFF#32

/-- `P_GUARD_RESET` (R6). -/
abbrev guardReset : Word := 0#32

/-- `P_Q0_RESET`, `P_Q1_RESET`, `P_Q2_RESET` (R6). -/
abbrev coefficientReset : Word := 0#32

/-- `P_TS_RESET`: automatic sampling off (R6). -/
abbrev tsReset : Word := 0#32

/-- `P_ZC_TIMEOUT_RESET`: watchdog off (R6). -/
abbrev zcTimeoutReset : Word := 0#32

/-- Idle level of `zc_in` (R120, R373). DESIGN CHOICE for S_0, log 3. -/
abbrev idleZc : Bool := false

/-- Idle levels of `btn[4:0]`: all high, pulled up (R120, R373). DESIGN CHOICE for S_0, log 3. -/
abbrev idleBtn : BitVec 5 := 0b11111#5

/-- Idle levels of `flag_in[2:0]` (R120, R373). DESIGN CHOICE for S_0, log 3. -/
abbrev idleFlagIn : BitVec 3 := 0b000#3

end Sys2Proof.Config
end

