-- ==== Sys2Proof/Machine/State.lean ====
section
/-! DEFINITION. The state of the block as plain data (R20 to R64), the input vector (R8), the bus response (R140), the machine's
own bookkeeping of a tick, the reasons a step can stop, and the state after reset (R370 to R373). -/

namespace Sys2Proof.Machine

/-- `DIR` in `MOTION[1:0]`: 0 NONE, 1 RIGHT, 2 LEFT (R58, R117). Code 3 is never produced and is left out of the type (R117, log 10). -/
inductive Dir where
  | none | right | left
  deriving DecidableEq, Repr

/-- `LAST_DIR` in `FLAG_RX[5:4]`: 0 UNKNOWN, 1 RIGHT, 2 LEFT, 3 PAUSED (R61, R117). -/
inductive LastDir where
  | unknown | right | left | paused
  deriving DecidableEq, Repr

/-- The five button sources (R6, R117): index 0 RIGHT, 1 LEFT, 2 PAUSE, 3 SP_UP, 4 SP_DOWN. -/
inductive Btn where
  | right | left | pause | spUp | spDown
  deriving DecidableEq, Repr

/-- The causes of the one synchronous exception, `BusError` (R341): codes 1, 2, 3. -/
inductive BusCause where
  | misaligned | unmapped | writeRo
  deriving DecidableEq, Repr

/-- The time base, the sticky events and their interrupt enables (R31, R34, R35). -/
structure SysRegs where
  now : Word
  event : Events
  irqEn : Events
  deriving DecidableEq, Repr

/-- The zero-cross unit and the phase-delay timer (R32, R36 to R42, R62 to R64). -/
structure ZcRegs where
  heatEn : Bool
  triac : Bool
  haveEdge : Bool
  periodValid : Bool
  zcPrev : Bool
  lastCross : Word
  period : Word
  fireDelay : Word
  dlyCnt : Word
  guard : Word
  zcTimeout : Word
  zcSilence : Word
  deriving DecidableEq, Repr

/-- The PID unit and the setpoint (R43 to R53). `PID_CMD` stores nothing (R54). -/
structure PidRegs where
  temp : Word
  setpoint : Word
  spStep : Word
  spMin : Word
  spMax : Word
  q0 : Word
  q1 : Word
  q2 : Word
  e1 : Word
  e2 : Word
  pidOut : Word
  pidRaw : Word
  ts : Word
  tsCnt : Word
  sampleCount : Word
  deriving DecidableEq, Repr

/-- The five debounced edge latches (R55 to R57, R62, R290). -/
structure DbRegs where
  window : Word
  pol : BitVec 5
  prev : BitVec 5
  hold0 : Word
  hold1 : Word
  hold2 : Word
  hold3 : Word
  hold4 : Word
  deriving DecidableEq, Repr

/-- The motion state machine, the flag sender and the pulse generator (R58 to R60). -/
structure MotRegs where
  dir : Dir
  paused : Bool
  motDir : Bool
  motEn : Bool
  step : Bool
  flags : BitVec 3
  stepHalf : Word
  stepCnt : Word
  deriving DecidableEq, Repr

/-- The flag receiver (R61). -/
structure RxRegs where
  flagInS : BitVec 3
  lastDir : LastDir
  deriving DecidableEq, Repr

/-- The architectural state `S` of the block: exactly the registers and fields of R31 to R64 (R20). -/
structure Regs where
  sys : SysRegs
  zc : ZcRegs
  pid : PidRegs
  db : DbRegs
  mot : MotRegs
  rx : RxRegs
  deriving DecidableEq, Repr

/-- The input vector `IN_t`, 52 bits (R8). -/
structure Inputs where
  rst : Bool
  zcIn : Bool
  btn : BitVec 5
  flagIn : BitVec 3
  valid : Bool
  write : Bool
  addr : BitVec 8
  wdata : Word
  deriving DecidableEq, Repr

/-- The bus response of a tick: `bus_rdata`, `bus_err` (R140), and the cause of the bus error, which is on no pin (R341). -/
structure BusResponse where
  rdata : Word
  err : Bool
  cause : Option BusCause
  deriving DecidableEq, Repr

/-- The machine. `cur` is `S_t`. The other fields are the model's own (INVENTORY.md, State): `nxt` and `evSet` are
`S_{t+1}` and the event set mask of R99 while a tick is being computed (log 5); `inp` is the input vector of the latest
tick, `stimulus` those of the ticks to come, next one first (log 1); `resp` is the latest tick's bus response (log 7). -/
structure State where
  cur : Regs
  nxt : Regs
  evSet : Events
  inp : Inputs
  stimulus : List Inputs
  resp : BusResponse
  deriving DecidableEq, Repr

/-- The faults of a step: none. `step` is total (R7), and the only exception, `BusError`, answers the host and lets every unit run on
(R341), so its meaning is a next state (log 6). Nobody raises a fault; that no run can stop here is the spec's own statement. -/
inductive Fault where
  deriving DecidableEq, Repr

/-- The refusals of a step. -/
inductive Refusal where
  /-- Raised by an arm of `exec` whose operation has no meaning yet, with the row's mnemonic; no arm raises it now. Safe: the
  machine stops where the hardware goes on. -/
  | notModelled (mnemonic : String)
  deriving DecidableEq, Repr

/-- The input vector of idle pins with no transaction (R120). -/
def Inputs.idle : Inputs where
  rst := false
  zcIn := Config.idleZc
  btn := Config.idleBtn
  flagIn := Config.idleFlagIn
  valid := false
  write := false
  addr := 0#8
  wdata := 0#32

/-- The response with `bus_rdata` = 0 and `bus_err` = 0 (R140). -/
def BusResponse.idle : BusResponse where
  rdata := 0#32
  err := false
  cause := none

/-- The reset state of R370 to R372 with the three groups of bits that capture pins: `ZC_PREV`, `BTN_PREV`, `FLAG_IN_S`. -/
def Regs.resetWith (zc : Bool) (btn : BitVec 5) (flagIn : BitVec 3) : Regs where
  sys := { now := 0#32, event := 0#13, irqEn := 0#13 }
  zc :=
    { heatEn := false, triac := false, haveEdge := false, periodValid := false, zcPrev := zc, lastCross := 0#32,
      period := 0#32, fireDelay := 0#32, dlyCnt := 0#32, guard := Config.guardReset,
      zcTimeout := Config.zcTimeoutReset, zcSilence := 0#32 }
  pid :=
    { temp := 0#32, setpoint := 0#32, spStep := Config.spStepReset, spMin := Config.spMinReset,
      spMax := Config.spMaxReset, q0 := Config.coefficientReset, q1 := Config.coefficientReset,
      q2 := Config.coefficientReset, e1 := 0#32, e2 := 0#32, pidOut := 0#32, pidRaw := 0#32, ts := Config.tsReset,
      tsCnt := 0#32, sampleCount := 0#32 }
  db :=
    { window := Config.dbWindowReset, pol := 0#5, prev := btn, hold0 := 0#32, hold1 := 0#32, hold2 := 0#32,
      hold3 := 0#32, hold4 := 0#32 }
  mot :=
    { dir := .none, paused := false, motDir := false, motEn := false, step := false, flags := 0#3,
      stepHalf := Config.stepHalfReset, stepCnt := 0#32 }
  rx := { flagInS := flagIn, lastDir := .unknown }

/-- `S_0`: the reset state with the pins at their idle levels (R373; DESIGN CHOICE for the captured pins, log 3), no stimulus
to come (log 1) and the model's own fields at rest (log 14). -/
def State.reset : State where
  cur := Regs.resetWith Config.idleZc Config.idleBtn Config.idleFlagIn
  nxt := Regs.resetWith Config.idleZc Config.idleBtn Config.idleFlagIn
  evSet := 0#13
  inp := Inputs.idle
  stimulus := []
  resp := BusResponse.idle

end Sys2Proof.Machine
end

