-- ==== Sys2Proof/Machine/Flags.lean ====
section
/-! DEFINITION. The flags of the block (R67): the `EVENT` bits, the derived signals `DRIVE`, `TIMER_ACTIVE` and `irq`, the registered
outputs, and the images of the field registers. -/

namespace Sys2Proof.Machine

/-- `EVENT` bit 0 `ZC`: a crossing is processed (R34). -/
def evZc : Events := 0x0001#13
/-- `EVENT` bit 1 `FIRE_DONE`: the phase-delay timer expires (R34). -/
def evFireDone : Events := 0x0002#13
/-- `EVENT` bit 2 `DLY_CLAMP`: a crossing takes the clamp branch (R34). -/
def evDlyClamp : Events := 0x0004#13
/-- `EVENT` bit 3 `ZC_RETRIG`: a crossing arrives while the timer counts (R34). -/
def evZcRetrig : Events := 0x0008#13
/-- `EVENT` bit 4 `SYNC_LOST`: the mains-silence watchdog fires (R34). -/
def evSyncLost : Events := 0x0010#13
/-- `EVENT` bit 5 `PID_DONE`: a sample is computed (R34). -/
def evPidDone : Events := 0x0020#13
/-- `EVENT` bit 6 `PID_SAT_LO`: the unclamped value was below 0 (R34). -/
def evPidSatLo : Events := 0x0040#13
/-- `EVENT` bit 7 `PID_SAT_HI`: the unclamped value was above 100 (R34). -/
def evPidSatHi : Events := 0x0080#13

/-- `EVENT` bits 8 to 12 `BTN_ACCi`: an edge on button `i` is accepted (R34). -/
def evBtnAcc : Btn → Events
  | .right => 0x0100#13
  | .left => 0x0200#13
  | .pause => 0x0400#13
  | .spUp => 0x0800#13
  | .spDown => 0x1000#13

/-- The index of a button source in `btn`, `BTN_PREV`, `BTN_POL` and `DB_HOLDi` (R117). -/
def btnIndex : Btn → Nat
  | .right => 0
  | .left => 1
  | .pause => 2
  | .spUp => 3
  | .spDown => 4

/-- `EVENT.SYNC_LOST`, the one event bit that changes behaviour (R34). -/
def syncLost (r : Regs) : Bool := r.sys.event.getLsbD 4

/-- `irq`: some enabled event is pending (R345). -/
def irq (r : Regs) : Bool := r.sys.event &&& r.sys.irqEn != 0#13

/-- `DRIVE = (DIR ≠ NONE) and (PAUSED = 0)` (R310). -/
def drive (m : MotRegs) : Bool := m.dir != .none && !m.paused

/-- `TIMER_ACTIVE`: a timed gate pulse is in progress (R33). -/
def timerActive (z : ZcRegs) : Bool := z.dlyCnt != 0#32

/-- The code of `DIR` in `MOTION[1:0]` (R117). -/
def dirCode : Dir → BitVec 2
  | .none => 0#2
  | .right => 1#2
  | .left => 2#2

/-- The code of `LAST_DIR` in `FLAG_RX[5:4]` (R117). -/
def lastDirCode : LastDir → BitVec 2
  | .unknown => 0#2
  | .right => 1#2
  | .left => 2#2
  | .paused => 3#2

/-- The sender's flag codes `FLAGS = {paused, left, right}` (R118). -/
def flagsRight : BitVec 3 := 0b001#3
/-- LEFT (R118). -/
def flagsLeft : BitVec 3 := 0b010#3
/-- PAUSED (R118). -/
def flagsPaused : BitVec 3 := 0b100#3

/-- The receiver's decode of `flag_in`: a one-hot code replaces the last direction, every other pattern keeps it (R119, R318). -/
def receiveFlags (f : BitVec 3) (last : LastDir) : LastDir :=
  if f = flagsRight then .right
  else if f = flagsLeft then .left
  else if f = flagsPaused then .paused
  else last

/-- The image of `STATUS` (R33, R172). -/
def statusImage (r : Regs) : Word :=
  0#20 ++ BitVec.ofBool (irq r) ++ BitVec.ofBool (drive r.mot) ++ r.db.prev ++ BitVec.ofBool r.zc.zcPrev ++
    BitVec.ofBool r.zc.periodValid ++ BitVec.ofBool r.zc.haveEdge ++ BitVec.ofBool (timerActive r.zc) ++
    BitVec.ofBool r.zc.triac

/-- The image of `MOTION` (R58, R206). -/
def motionImage (m : MotRegs) : Word :=
  0#23 ++ m.flags ++ BitVec.ofBool m.step ++ BitVec.ofBool m.motEn ++ BitVec.ofBool m.motDir ++ BitVec.ofBool m.paused ++
    dirCode m.dir

/-- The image of `FLAG_RX` (R61, R209). -/
def flagRxImage (x : RxRegs) : Word := 0#26 ++ lastDirCode x.lastDir ++ 0#1 ++ x.flagInS

/-- The eight registered output pins (R7, R65). -/
structure Outputs where
  triacGate : Bool
  motDir : Bool
  motEn : Bool
  motStep : Bool
  flagRight : Bool
  flagLeft : Bool
  flagPaused : Bool
  irq : Bool
  deriving DecidableEq, Repr

/-- The registered outputs as functions of `S_t` alone (R65). -/
def outputs (r : Regs) : Outputs where
  triacGate := r.zc.triac
  motDir := r.mot.motDir
  motEn := r.mot.motEn
  motStep := r.mot.step
  flagRight := r.mot.flags.getLsbD 0
  flagLeft := r.mot.flags.getLsbD 1
  flagPaused := r.mot.flags.getLsbD 2
  irq := Sys2Proof.Machine.irq r

end Sys2Proof.Machine
end

