-- ==== Sys2Proof/Machine/Operands.lean ====
section
/-! DEFINITION. The operands of the block: the 39 registers by name (R30), what a read returns and what a host write stores in each
(`RegRead`, `RegWrite` of R11), and the fixed-point arithmetic of R11. -/

namespace Sys2Proof.Machine

/-- The 39 registers at 0x00 to 0x98, in address order (R30). -/
inductive Reg where
  | ctrl | status | event | irqEn | now | lastCross | period | fireDelay | dlyCnt | guard | zcTimeout
  | zcSilence | temp | setpoint | spStep | spMin | spMax | q0 | q1 | q2 | e1 | e2 | pidOut | pidRaw | ts
  | tsCnt | sampleCount | pidCmd | dbWindow | btnPol | dbHold0 | dbHold1 | dbHold2 | dbHold3 | dbHold4 | motion
  | stepHalf | stepCnt | flagRx
  deriving DecidableEq, Repr

/-- `RegRead(name)`: the 32-bit image of a register; reserved bits read 0 (R11, R170 to R209). -/
def regRead : Reg → Regs → Word
  | .ctrl, r => 0#31 ++ BitVec.ofBool r.zc.heatEn
  | .status, r => statusImage r
  | .event, r => 0#19 ++ r.sys.event
  | .irqEn, r => 0#19 ++ r.sys.irqEn
  | .now, r => r.sys.now
  | .lastCross, r => r.zc.lastCross
  | .period, r => r.zc.period
  | .fireDelay, r => r.zc.fireDelay
  | .dlyCnt, r => r.zc.dlyCnt
  | .guard, r => r.zc.guard
  | .zcTimeout, r => r.zc.zcTimeout
  | .zcSilence, r => r.zc.zcSilence
  | .temp, r => r.pid.temp
  | .setpoint, r => r.pid.setpoint
  | .spStep, r => r.pid.spStep
  | .spMin, r => r.pid.spMin
  | .spMax, r => r.pid.spMax
  | .q0, r => r.pid.q0
  | .q1, r => r.pid.q1
  | .q2, r => r.pid.q2
  | .e1, r => r.pid.e1
  | .e2, r => r.pid.e2
  | .pidOut, r => r.pid.pidOut
  | .pidRaw, r => r.pid.pidRaw
  | .ts, r => r.pid.ts
  | .tsCnt, r => r.pid.tsCnt
  | .sampleCount, r => r.pid.sampleCount
  | .pidCmd, _ => 0#32
  | .dbWindow, r => r.db.window
  | .btnPol, r => 0#27 ++ r.db.pol
  | .dbHold0, r => r.db.hold0
  | .dbHold1, r => r.db.hold1
  | .dbHold2, r => r.db.hold2
  | .dbHold3, r => r.db.hold3
  | .dbHold4, r => r.db.hold4
  | .motion, r => motionImage r.mot
  | .stepHalf, r => r.mot.stepHalf
  | .stepCnt, r => r.mot.stepCnt
  | .flagRx, r => flagRxImage r.rx

/-- `RegWrite(name, v)`: the plain store of R145 on the sixteen registers that have one. The stored bits of `IRQ_EN` and `BTN_POL` are
their fields (masks 0x1FFF and 0x1F, R112, R145). `CTRL`, `EVENT` and `PID_CMD` have rules of their own (R141, R143, R160) and the read-only
registers store nothing (R162). -/
def regWrite : Reg → Word → Regs → Regs
  | .irqEn, v, r => { r with sys := { r.sys with irqEn := v.extractLsb' 0 13 } }
  | .fireDelay, v, r => { r with zc := { r.zc with fireDelay := v } }
  | .guard, v, r => { r with zc := { r.zc with guard := v } }
  | .zcTimeout, v, r => { r with zc := { r.zc with zcTimeout := v } }
  | .temp, v, r => { r with pid := { r.pid with temp := v } }
  | .setpoint, v, r => { r with pid := { r.pid with setpoint := v } }
  | .spStep, v, r => { r with pid := { r.pid with spStep := v } }
  | .spMin, v, r => { r with pid := { r.pid with spMin := v } }
  | .spMax, v, r => { r with pid := { r.pid with spMax := v } }
  | .q0, v, r => { r with pid := { r.pid with q0 := v } }
  | .q1, v, r => { r with pid := { r.pid with q1 := v } }
  | .q2, v, r => { r with pid := { r.pid with q2 := v } }
  | .ts, v, r => { r with pid := { r.pid with ts := v } }
  | .dbWindow, v, r => { r with db := { r.db with window := v } }
  | .btnPol, v, r => { r with db := { r.db with pol := v.extractLsb' 0 5 } }
  | .stepHalf, v, r => { r with mot := { r.mot with stepHalf := v } }
  | .ctrl, _, r | .event, _, r | .pidCmd, _, r | .status, _, r | .now, _, r | .lastCross, _, r | .period, _, r
  | .dlyCnt, _, r | .zcSilence, _, r | .e1, _, r | .e2, _, r | .pidOut, _, r | .pidRaw, _, r | .tsCnt, _, r
  | .sampleCount, _, r | .dbHold0, _, r | .dbHold1, _, r | .dbHold2, _, r | .dbHold3, _, r | .dbHold4, _, r
  | .motion, _, r | .stepCnt, _, r | .flagRx, _, r => r

/-- `DB_HOLDi` (R57). -/
def holdOf : Btn → DbRegs → Word
  | .right, d => d.hold0
  | .left, d => d.hold1
  | .pause, d => d.hold2
  | .spUp, d => d.hold3
  | .spDown, d => d.hold4

/-- `DB_HOLDi' <- v` (R57). -/
def setHold : Btn → Word → DbRegs → DbRegs
  | .right, v, d => { d with hold0 := v }
  | .left, v, d => { d with hold1 := v }
  | .pause, v, d => { d with hold2 := v }
  | .spUp, v, d => { d with hold3 := v }
  | .spDown, v, d => { d with hold4 := v }

/-- `clamp(x, lo, hi) = max(lo, min(hi, x))`; `lo` when `lo > hi` (R11). -/
def clampInt (x lo hi : Int) : Int := max lo (min hi x)

/-- `sat_s32(x)` (R11). -/
def satS32 (x : Int) : Int := clampInt x (-2147483648) 2147483647

/-- The 32-bit pattern of an integer: its residue modulo 2^32 (R10, R11). -/
def wordOfInt (x : Int) : Word := BitVec.ofInt 32 x

/-- `floor(x / 65536)`, that is `x >> 16` on a signed value (R11). Lean's `/` on `Int` is the floor for a positive divisor. -/
def floorQ16 (x : Int) : Int := x / 65536

/-- A counter's `max(n − 1, 0)`: counters that stop at 0 (R295, R293). -/
def decToZero (n : Word) : Word := if n = 0#32 then 0#32 else n - 1#32

/-- `min(n + 1, 2^32 − 1)`: the silence counter (R238). -/
def incSaturating (n : Word) : Word := if n = 0xFFFFFFFF#32 then n else n + 1#32

end Sys2Proof.Machine
end

