-- ==== Sys2Proof/Machine/Ops.lean ====
section
/-! DEFINITION. The operations the meanings share: updates of the state being built, the host port (R140) with its bus error (R341), and
the conditions of R115 and R116. A meaning reads `cur` (S_t) and `inp` (IN_t) and writes `nxt` (S_{t+1}), `evSet` and
`resp`; only the sequential phase 4 reads `nxt`, its working copy (R9, R296; log 5). -/

namespace Sys2Proof.Machine

/-! ### Updates of the state being built -/

/-- Updates the time base and event registers of `S_{t+1}`. -/
def State.updSys (s : State) (f : SysRegs → SysRegs) : State := { s with nxt := { s.nxt with sys := f s.nxt.sys } }

/-- Updates the zero-cross unit of `S_{t+1}`. -/
def State.updZc (s : State) (f : ZcRegs → ZcRegs) : State := { s with nxt := { s.nxt with zc := f s.nxt.zc } }

/-- Updates the PID unit of `S_{t+1}`. -/
def State.updPid (s : State) (f : PidRegs → PidRegs) : State := { s with nxt := { s.nxt with pid := f s.nxt.pid } }

/-- Updates the latches of `S_{t+1}`. -/
def State.updDb (s : State) (f : DbRegs → DbRegs) : State := { s with nxt := { s.nxt with db := f s.nxt.db } }

/-- Updates the motion side of `S_{t+1}`. -/
def State.updMot (s : State) (f : MotRegs → MotRegs) : State := { s with nxt := { s.nxt with mot := f s.nxt.mot } }

/-- Updates the flag receiver of `S_{t+1}`. -/
def State.updRx (s : State) (f : RxRegs → RxRegs) : State := { s with nxt := { s.nxt with rx := f s.nxt.rx } }

/-- Updates any of `S_{t+1}`. -/
def State.updRegs (s : State) (f : Regs → Regs) : State := { s with nxt := f s.nxt }

/-- `set_event(mask)`: adds to this tick's event set mask (R11, R99). -/
def State.setEvent (s : State) (mask : Events) : State := { s with evSet := s.evSet ||| mask }

/-- Puts a response on the bus (R140). -/
def State.answer (s : State) (r : BusResponse) : State := { s with resp := r }

/-- `f` where the condition of an operation holds, and nothing where the operation does not occur in this tick. -/
def State.when (s : State) (c : Bool) (f : State → State) : State := if c then f s else s

/-! ### The host port -/

/-- A legal read: `bus_rdata = RegRead(name)` from `S_t`, no state change (R140, R170). -/
def hostRead (r : Reg) (s : State) : State := s.answer { rdata := regRead r s.cur, err := false, cause := none }

/-- A legal write: answers 0 without error, and changes `S_{t+1}` unless the tick is a reset tick (R140). -/
def hostWrite (f : State → State) (s : State) : State :=
  (s.answer BusResponse.idle).when (!s.inp.rst) f

/-- The plain store of R145. -/
def hostStore (r : Reg) (d : Word) (s : State) : State := hostWrite (fun u => u.updRegs (regWrite r d)) s

/-- TAKING the one exception, `raise BusError(cause)`: `bus_err = 1` and `bus_rdata = 0` in this tick, and no state change from the
transaction (R341). Nothing is saved, no mode changes, control goes nowhere, and there is no return from it (R348). -/
def raiseBusError (c : BusCause) (s : State) : State := s.answer { rdata := 0#32, err := true, cause := some c }

/-! ### What this tick's transaction asks of the units -/

/-- This tick has a write to the register at `a` (R111). -/
def writesTo (i : Inputs) (a : BitVec 8) : Bool := i.valid && i.write && i.addr == a

/-- `kill(t)`: this tick has a legal `WR.CTRL` with `D[0] = 0` (R230). -/
def kill (i : Inputs) : Bool := writesTo i 0x00#8 && !i.wdata.getLsbD 0

/-- `step_cmd`: this tick has a legal `WR.PID_CMD` with `D[0] = 1` (R260). -/
def stepCmd (i : Inputs) : Bool := writesTo i 0x6C#8 && i.wdata.getLsbD 0

/-! ### Conditions of the zero-cross unit -/

/-- `heat_on(t)` (R230). -/
def heatOn (s : State) : Bool := s.cur.zc.heatEn && !syncLost s.cur && !kill s.inp

/-- A rising edge of `zc_in` (R231). -/
def zcEdge (s : State) : Bool := s.inp.zcIn && !s.cur.zc.zcPrev

/-- A crossing occurs in this tick (R231). -/
def crossing (s : State) : Bool := !s.inp.rst && heatOn s && zcEdge s

/-- The unit is off in this tick (R230, R116). -/
def unitOff (s : State) : Bool := !s.inp.rst && !heatOn s

/-- The unit is on and no crossing occurs in this tick: the condition the timer and the watchdog share (R237, R238). -/
def quiet (s : State) : Bool := !s.inp.rst && heatOn s && !zcEdge s

/-- The period `p` the crossing of this tick uses (R233). -/
def crossPeriod (s : State) : Word :=
  if s.cur.zc.haveEdge then s.cur.sys.now - s.cur.zc.lastCross else s.cur.zc.period

/-- The watchdog's condition on `S_t` (R238). -/
def watchdogDue (z : ZcRegs) : Bool := z.zcTimeout != 0#32 && decide (z.zcTimeout ≤ incSaturating z.zcSilence)

/-! ### Conditions of the PID unit -/

/-- `auto`, the condition of `TS.TICK` (R260); the sum is not reduced modulo 2^32 (R11). -/
def autoSample (p : PidRegs) : Bool := p.ts != 0#32 && decide (p.ts.toNat ≤ p.tsCnt.toNat + 1)

/-- A sample is computed in this tick (R116, R260). -/
def sampleDue (s : State) : Bool := !s.inp.rst && (autoSample s.cur.pid || stepCmd s.inp)

/-! ### Conditions of the latches and the pulse generator -/

/-- The raw edge of R291 from the polarity, the previous sample and this tick's level of one button. -/
def rawEdge (pol prev level : Bool) : Bool := if pol then level && !prev else !level && prev

/-- The edge at level `p` on button `b` is accepted in this tick (R291, R293). -/
def accepted (s : State) (b : Btn) (p : Bool) : Bool :=
  !s.inp.rst && rawEdge (s.cur.db.pol.getLsbD (btnIndex b)) (s.cur.db.prev.getLsbD (btnIndex b)) p &&
    holdOf b s.cur.db == 0#32

/-- The level of button `b` in `IN_t` (R8). -/
def btnLevel (i : Inputs) (b : Btn) : Bool := i.btn.getLsbD (btnIndex b)

end Sys2Proof.Machine
end

