-- ==== Sys2Proof/Machine/BusError.lean ====
section
/-! DEFINITION. `NOP` (R142) and the error forms: the 20 writes of read-only registers (R162), unmapped (R163) and misaligned (R164)
transactions. Each error form takes the bus error, which is a next state (R341). -/

namespace Sys2Proof.Machine

/-- `NOP` (R142): `bus_rdata = 0`, `bus_err = 0`, nothing else. -/
def execNop (s : State) : Host.Outcome State Fault Refusal := .next (s.answer BusResponse.idle)

/-- `BUS.UNMAPPED` (R163). -/
def execBusUnmapped (_w : Bool) (_a : BitVec 6) (_d : Word) (s : State) : Host.Outcome State Fault Refusal :=
  .next (raiseBusError .unmapped s)

/-- `BUS.MISALIGNED` (R164). -/
def execBusMisaligned (_w : Bool) (_a : BitVec 6) (_b : BitVec 2) (_d : Word) (s : State) :
    Host.Outcome State Fault Refusal :=
  .next (raiseBusError .misaligned s)

/-- `WR.RO.STATUS` (R162): `STATUS` is read-only for the host. -/
def execWrRoStatus (_d : Word) (s : State) : Host.Outcome State Fault Refusal := .next (raiseBusError .writeRo s)

/-- `WR.RO.NOW` (R162): `NOW` is read-only for the host. -/
def execWrRoNow (_d : Word) (s : State) : Host.Outcome State Fault Refusal := .next (raiseBusError .writeRo s)

/-- `WR.RO.LAST_CROSS` (R162): `LAST_CROSS` is read-only for the host. -/
def execWrRoLastCross (_d : Word) (s : State) : Host.Outcome State Fault Refusal := .next (raiseBusError .writeRo s)

/-- `WR.RO.PERIOD` (R162): `PERIOD` is read-only for the host. -/
def execWrRoPeriod (_d : Word) (s : State) : Host.Outcome State Fault Refusal := .next (raiseBusError .writeRo s)

/-- `WR.RO.DLY_CNT` (R162): `DLY_CNT` is read-only for the host. -/
def execWrRoDlyCnt (_d : Word) (s : State) : Host.Outcome State Fault Refusal := .next (raiseBusError .writeRo s)

/-- `WR.RO.ZC_SILENCE` (R162): `ZC_SILENCE` is read-only for the host. -/
def execWrRoZcSilence (_d : Word) (s : State) : Host.Outcome State Fault Refusal := .next (raiseBusError .writeRo s)

/-- `WR.RO.E1` (R162): `E1` is read-only for the host. -/
def execWrRoE1 (_d : Word) (s : State) : Host.Outcome State Fault Refusal := .next (raiseBusError .writeRo s)

/-- `WR.RO.E2` (R162): `E2` is read-only for the host. -/
def execWrRoE2 (_d : Word) (s : State) : Host.Outcome State Fault Refusal := .next (raiseBusError .writeRo s)

/-- `WR.RO.PID_OUT` (R162): `PID_OUT` is read-only for the host. -/
def execWrRoPidOut (_d : Word) (s : State) : Host.Outcome State Fault Refusal := .next (raiseBusError .writeRo s)

/-- `WR.RO.PID_RAW` (R162): `PID_RAW` is read-only for the host. -/
def execWrRoPidRaw (_d : Word) (s : State) : Host.Outcome State Fault Refusal := .next (raiseBusError .writeRo s)

/-- `WR.RO.TS_CNT` (R162): `TS_CNT` is read-only for the host. -/
def execWrRoTsCnt (_d : Word) (s : State) : Host.Outcome State Fault Refusal := .next (raiseBusError .writeRo s)

/-- `WR.RO.SAMPLE_COUNT` (R162): `SAMPLE_COUNT` is read-only for the host. -/
def execWrRoSampleCount (_d : Word) (s : State) : Host.Outcome State Fault Refusal := .next (raiseBusError .writeRo s)

/-- `WR.RO.DB_HOLD0` (R162): `DB_HOLD0` is read-only for the host. -/
def execWrRoDbHold0 (_d : Word) (s : State) : Host.Outcome State Fault Refusal := .next (raiseBusError .writeRo s)

/-- `WR.RO.DB_HOLD1` (R162): `DB_HOLD1` is read-only for the host. -/
def execWrRoDbHold1 (_d : Word) (s : State) : Host.Outcome State Fault Refusal := .next (raiseBusError .writeRo s)

/-- `WR.RO.DB_HOLD2` (R162): `DB_HOLD2` is read-only for the host. -/
def execWrRoDbHold2 (_d : Word) (s : State) : Host.Outcome State Fault Refusal := .next (raiseBusError .writeRo s)

/-- `WR.RO.DB_HOLD3` (R162): `DB_HOLD3` is read-only for the host. -/
def execWrRoDbHold3 (_d : Word) (s : State) : Host.Outcome State Fault Refusal := .next (raiseBusError .writeRo s)

/-- `WR.RO.DB_HOLD4` (R162): `DB_HOLD4` is read-only for the host. -/
def execWrRoDbHold4 (_d : Word) (s : State) : Host.Outcome State Fault Refusal := .next (raiseBusError .writeRo s)

/-- `WR.RO.MOTION` (R162): `MOTION` is read-only for the host. -/
def execWrRoMotion (_d : Word) (s : State) : Host.Outcome State Fault Refusal := .next (raiseBusError .writeRo s)

/-- `WR.RO.STEP_CNT` (R162): `STEP_CNT` is read-only for the host. -/
def execWrRoStepCnt (_d : Word) (s : State) : Host.Outcome State Fault Refusal := .next (raiseBusError .writeRo s)

/-- `WR.RO.FLAG_RX` (R162): `FLAG_RX` is read-only for the host. -/
def execWrRoFlagRx (_d : Word) (s : State) : Host.Outcome State Fault Refusal := .next (raiseBusError .writeRo s)

end Sys2Proof.Machine
end

