-- ==== Sys2Proof/Machine/BusRead.lean ====
section
/-! DEFINITION. The 39 reads (R170 to R209): each answers the image of its register in S_t and changes no state. -/

namespace Sys2Proof.Machine

/-- `RD.CTRL` (R171). -/
def execRdCtrl (s : State) : Host.Outcome State Fault Refusal := .next (hostRead .ctrl s)

/-- `RD.STATUS` (R172). -/
def execRdStatus (s : State) : Host.Outcome State Fault Refusal := .next (hostRead .status s)

/-- `RD.EVENT` (R173). Reading clears nothing. -/
def execRdEvent (s : State) : Host.Outcome State Fault Refusal := .next (hostRead .event s)

/-- `RD.IRQ_EN` (R174). -/
def execRdIrqEn (s : State) : Host.Outcome State Fault Refusal := .next (hostRead .irqEn s)

/-- `RD.NOW` (R175). -/
def execRdNow (s : State) : Host.Outcome State Fault Refusal := .next (hostRead .now s)

/-- `RD.LAST_CROSS` (R176). -/
def execRdLastCross (s : State) : Host.Outcome State Fault Refusal := .next (hostRead .lastCross s)

/-- `RD.PERIOD` (R177). -/
def execRdPeriod (s : State) : Host.Outcome State Fault Refusal := .next (hostRead .period s)

/-- `RD.FIRE_DELAY` (R178). -/
def execRdFireDelay (s : State) : Host.Outcome State Fault Refusal := .next (hostRead .fireDelay s)

/-- `RD.DLY_CNT` (R179). -/
def execRdDlyCnt (s : State) : Host.Outcome State Fault Refusal := .next (hostRead .dlyCnt s)

/-- `RD.GUARD` (R180). -/
def execRdGuard (s : State) : Host.Outcome State Fault Refusal := .next (hostRead .guard s)

/-- `RD.ZC_TIMEOUT` (R181). -/
def execRdZcTimeout (s : State) : Host.Outcome State Fault Refusal := .next (hostRead .zcTimeout s)

/-- `RD.ZC_SILENCE` (R182). -/
def execRdZcSilence (s : State) : Host.Outcome State Fault Refusal := .next (hostRead .zcSilence s)

/-- `RD.TEMP` (R183). -/
def execRdTemp (s : State) : Host.Outcome State Fault Refusal := .next (hostRead .temp s)

/-- `RD.SETPOINT` (R184). -/
def execRdSetpoint (s : State) : Host.Outcome State Fault Refusal := .next (hostRead .setpoint s)

/-- `RD.SP_STEP` (R185). -/
def execRdSpStep (s : State) : Host.Outcome State Fault Refusal := .next (hostRead .spStep s)

/-- `RD.SP_MIN` (R186). -/
def execRdSpMin (s : State) : Host.Outcome State Fault Refusal := .next (hostRead .spMin s)

/-- `RD.SP_MAX` (R187). -/
def execRdSpMax (s : State) : Host.Outcome State Fault Refusal := .next (hostRead .spMax s)

/-- `RD.Q0` (R188). -/
def execRdQ0 (s : State) : Host.Outcome State Fault Refusal := .next (hostRead .q0 s)

/-- `RD.Q1` (R189). -/
def execRdQ1 (s : State) : Host.Outcome State Fault Refusal := .next (hostRead .q1 s)

/-- `RD.Q2` (R190). -/
def execRdQ2 (s : State) : Host.Outcome State Fault Refusal := .next (hostRead .q2 s)

/-- `RD.E1` (R191). -/
def execRdE1 (s : State) : Host.Outcome State Fault Refusal := .next (hostRead .e1 s)

/-- `RD.E2` (R192). -/
def execRdE2 (s : State) : Host.Outcome State Fault Refusal := .next (hostRead .e2 s)

/-- `RD.PID_OUT` (R193). -/
def execRdPidOut (s : State) : Host.Outcome State Fault Refusal := .next (hostRead .pidOut s)

/-- `RD.PID_RAW` (R194). -/
def execRdPidRaw (s : State) : Host.Outcome State Fault Refusal := .next (hostRead .pidRaw s)

/-- `RD.TS` (R195). -/
def execRdTs (s : State) : Host.Outcome State Fault Refusal := .next (hostRead .ts s)

/-- `RD.TS_CNT` (R196). -/
def execRdTsCnt (s : State) : Host.Outcome State Fault Refusal := .next (hostRead .tsCnt s)

/-- `RD.SAMPLE_COUNT` (R197). -/
def execRdSampleCount (s : State) : Host.Outcome State Fault Refusal := .next (hostRead .sampleCount s)

/-- `RD.PID_CMD` (R198). A read of the write-only register is legal and answers 0. -/
def execRdPidCmd (s : State) : Host.Outcome State Fault Refusal := .next (hostRead .pidCmd s)

/-- `RD.DB_WINDOW` (R199). -/
def execRdDbWindow (s : State) : Host.Outcome State Fault Refusal := .next (hostRead .dbWindow s)

/-- `RD.BTN_POL` (R200). -/
def execRdBtnPol (s : State) : Host.Outcome State Fault Refusal := .next (hostRead .btnPol s)

/-- `RD.DB_HOLD0` (R201). -/
def execRdDbHold0 (s : State) : Host.Outcome State Fault Refusal := .next (hostRead .dbHold0 s)

/-- `RD.DB_HOLD1` (R202). -/
def execRdDbHold1 (s : State) : Host.Outcome State Fault Refusal := .next (hostRead .dbHold1 s)

/-- `RD.DB_HOLD2` (R203). -/
def execRdDbHold2 (s : State) : Host.Outcome State Fault Refusal := .next (hostRead .dbHold2 s)

/-- `RD.DB_HOLD3` (R204). -/
def execRdDbHold3 (s : State) : Host.Outcome State Fault Refusal := .next (hostRead .dbHold3 s)

/-- `RD.DB_HOLD4` (R205). -/
def execRdDbHold4 (s : State) : Host.Outcome State Fault Refusal := .next (hostRead .dbHold4 s)

/-- `RD.MOTION` (R206). -/
def execRdMotion (s : State) : Host.Outcome State Fault Refusal := .next (hostRead .motion s)

/-- `RD.STEP_HALF` (R207). -/
def execRdStepHalf (s : State) : Host.Outcome State Fault Refusal := .next (hostRead .stepHalf s)

/-- `RD.STEP_CNT` (R208). -/
def execRdStepCnt (s : State) : Host.Outcome State Fault Refusal := .next (hostRead .stepCnt s)

/-- `RD.FLAG_RX` (R209). -/
def execRdFlagRx (s : State) : Host.Outcome State Fault Refusal := .next (hostRead .flagRx s)

end Sys2Proof.Machine
end

