-- ==== Sys2Proof/Machine/Pid.lean ====
section
/-! DEFINITION. Phase 3: the sample divider and the discrete PID sample (R260 to R268), on unbounded integers (R11, R269). -/

namespace Sys2Proof.Machine

/-- `e0 = sat_s32(SETPOINT − TEMP)` (R261). -/
def sampleError (p : PidRegs) : Int := satS32 (p.setpoint.toInt - p.temp.toInt)

/-- `Z`, the exact recurrence scaled by 2^32 (R262). `PID_OUT` is read unsigned (R10, log 11). -/
def recurrence (p : PidRegs) : Int :=
  (p.pidOut.toNat : Int) * 65536 + p.q0.toInt * sampleError p + p.q1.toInt * p.e1.toInt + p.q2.toInt * p.e2.toInt

/-- `raw = floor(Z / 65536)` (R263). -/
def sampleRaw (p : PidRegs) : Int := floorQ16 (recurrence p)

/-- `u = clamp(raw, 0, U_MAX)` (R264). -/
def sampleOut (p : PidRegs) : Int := clampInt (sampleRaw p) 0 Config.uMax

/-- `fd`, the power command mapped to a delay (R265). -/
def mapDelay (period guard : Word) (u : Int) : Int :=
  if period < guard then 0
  else clampInt (((period.toNat : Int) - guard.toNat) * u / Config.uMax) 0 period.toNat

/-- The delay a sample writes (R265, R266). -/
def sampleDelay (r : Regs) : Word := wordOfInt (mapDelay r.zc.period r.zc.guard (sampleOut r.pid))

/-- The events of a sample (R264, R268). -/
def sampleEvents (p : PidRegs) : Events :=
  evPidDone ||| (if sampleRaw p < 0 then evPidSatLo else 0#13) |||
    (if (Config.uMax : Int) < sampleRaw p then evPidSatHi else 0#13)

/-- One sample: the whole of R261 to R268, all reading `S_t`. -/
def takeSample (s : State) : State :=
  ((s.setEvent (sampleEvents s.cur.pid)).updPid (fun p =>
    { p with
      pidRaw := wordOfInt (satS32 (sampleRaw s.cur.pid))
      pidOut := wordOfInt (sampleOut s.cur.pid)
      e2 := s.cur.pid.e1
      e1 := wordOfInt (sampleError s.cur.pid)
      sampleCount := s.cur.pid.sampleCount + 1#32 })).updZc (fun z => { z with fireDelay := sampleDelay s.cur })

/-- `TS.COUNT` (R260): every tick, `TS_CNT' <- 0` if `TS = 0` or `auto`, else `TS_CNT + 1`. -/
def execTsCount (s : State) : Host.Outcome State Fault Refusal :=
  .next (s.when (!s.inp.rst) (·.updPid (fun p =>
    { p with tsCnt := if s.cur.pid.ts = 0#32 ∨ autoSample s.cur.pid then 0#32 else s.cur.pid.tsCnt + 1#32 })))

/-- `TS.TICK` (R260): the divider reaches its end and starts again; the sample it triggers is `PID.SAMPLE` of the same tick. -/
def execTsTick (s : State) : Host.Outcome State Fault Refusal :=
  .next (s.when (!s.inp.rst && autoSample s.cur.pid) (·.updPid (fun p => { p with tsCnt := 0#32 })))

/-- `PID.SAMPLE` (R260 to R268): one sample on a sample tick or a commanded one, and one only when both come together. -/
def execPidSample (s : State) : Host.Outcome State Fault Refusal := .next (s.when (sampleDue s) takeSample)

end Sys2Proof.Machine
end

