-- ==== Sys2Proof/Machine/ZeroCross.lean ====
section
/-! DEFINITION. Phase 2: the zero-cross synchronizer, the phase-delay timer and the mains-silence watchdog (R230 to R238). -/

namespace Sys2Proof.Machine

/-- What being off does (R230, R141): gate and timer cleared, the last edge forgotten, silence held at 0. -/
def idleUnit (s : State) : State :=
  s.updZc (fun z => { z with triac := false, dlyCnt := 0#32, haveEdge := false, zcSilence := 0#32 })

/-- `ZC.OFF` (R230): on a tick with the unit off, its edges are ignored and `PERIOD`, `LAST_CROSS`, `PERIOD_VALID`, `FIRE_DELAY` are left
alone. -/
def execZcOff (s : State) : Host.Outcome State Fault Refusal := .next (s.when (unitOff s) idleUnit)

/-- `ZC.RISE` part 1, bookkeeping (R232). -/
def crossingEvents (s : State) : State :=
  ((s.setEvent evZc).when (s.cur.zc.dlyCnt != 0#32) (·.setEvent evZcRetrig)).updZc
    (fun z => { z with zcSilence := 0#32 })

/-- `ZC.RISE` part 2, period measurement (R233). -/
def measurePeriod (s : State) : State :=
  (s.when s.cur.zc.haveEdge (·.updZc (fun z => { z with period := crossPeriod s, periodValid := true }))).updZc
    (fun z => { z with lastCross := s.cur.sys.now, haveEdge := true })

/-- `ZC.RISE` part 4a, timed branch (R235): the timer takes its copy of `FIRE_DELAY`; a delay of 0 gives no pulse. -/
def timedBranch (s : State) : State :=
  s.updZc (fun z => { z with dlyCnt := s.cur.zc.fireDelay, triac := s.cur.zc.fireDelay != 0#32 })

/-- `ZC.RISE` part 4b, clamp branch (R236): the gate is held without a timer, and `p` is written back to `FIRE_DELAY`. -/
def clampBranch (s : State) : State :=
  (s.setEvent evDlyClamp).updZc
    (fun z => { z with fireDelay := crossPeriod s, triac := true, dlyCnt := 0#32 })

/-- Everything a crossing does (R232 to R236); part 3 is the unsigned compare of R234 on `S_t.FIRE_DELAY`. -/
def takeCrossing (s : State) : State :=
  let u := measurePeriod (crossingEvents s)
  if s.cur.zc.fireDelay < crossPeriod s then timedBranch u else clampBranch u

/-- `ZC.RISE` (R231 to R236): an edge of `zc_in` acts only where it is a crossing, that is with the unit on. -/
def execZcRise (s : State) : Host.Outcome State Fault Refusal := .next (s.when (crossing s) takeCrossing)

/-- `DLY.COUNT` (R237). -/
def execDlyCount (s : State) : Host.Outcome State Fault Refusal :=
  .next (s.when (quiet s && decide (2#32 ≤ s.cur.zc.dlyCnt))
    (·.updZc (fun z => { z with dlyCnt := s.cur.zc.dlyCnt - 1#32 })))

/-- `DLY.EXPIRE` (R237): the gate is deasserted. -/
def execDlyExpire (s : State) : Host.Outcome State Fault Refusal :=
  .next (s.when (quiet s && s.cur.zc.dlyCnt == 1#32)
    (fun u => (u.setEvent evFireDone).updZc (fun z => { z with triac := false, dlyCnt := 0#32 })))

/-- `WDG.COUNT` (R238): the silence counter saturates. -/
def execWdgCount (s : State) : Host.Outcome State Fault Refusal :=
  .next (s.when (quiet s) (·.updZc (fun z => { z with zcSilence := incSaturating s.cur.zc.zcSilence })))

/-- `WDG.FIRE` (R238): the watchdog shuts the gate and overrides the timer of the same tick (R347 (d)). -/
def execWdgFire (s : State) : Host.Outcome State Fault Refusal :=
  .next (s.when (quiet s && watchdogDue s.cur.zc)
    (fun u => (u.setEvent evSyncLost).updZc (fun z => { z with triac := false, dlyCnt := 0#32, haveEdge := false })))

end Sys2Proof.Machine
end

