-- ==== Sys2Proof/Machine/BusWrite.lean ====
section
/-! DEFINITION. The 19 writes (R141, R143 to R161). Phase 7 runs them after every unit, so a host write wins over the unit's write of the same
register (R98). -/

namespace Sys2Proof.Machine

/-- `WR.CTRL` (R141): `HEAT_EN' <- D[0]`, and with `D[0] = 0` the kill, which idles the zero-cross unit in this very tick. The
operations of the unit see the same kill through `heatOn` (R230), so in a step both say the same (log 9). -/
def execWrCtrl (d : Word) (s : State) : Host.Outcome State Fault Refusal :=
  .next (hostWrite
    (fun u => (u.updZc (fun z => { z with heatEn := d.getLsbD 0 })).when (!d.getLsbD 0) idleUnit) s)

/-- `WR.EVENT` (R143, R99): clears the bits written as 1. The events of this tick are joined at the end of the tick and so beat
the clear. -/
def execWrEvent (d : Word) (s : State) : Host.Outcome State Fault Refusal :=
  .next (hostWrite
    (fun u => u.updSys (fun y => { y with event := u.cur.sys.event &&& ~~~(d.extractLsb' 0 13) })) s)

/-- `WR.PID_CMD` (R160): with `D[0] = 1` the PID unit computes one sample in this tick; the write itself stores nothing. A sample reads
only `S_t`, so the `PID.SAMPLE` of the same tick and this one are one and the same sample (R260; log 9). -/
def execWrPidCmd (d : Word) (s : State) : Host.Outcome State Fault Refusal :=
  .next (hostWrite (fun u => u.when (d.getLsbD 0) takeSample) s)

/-- `WR.IRQ_EN` (R144): plain store of 13 bits. -/
def execWrIrqEn (d : Word) (s : State) : Host.Outcome State Fault Refusal := .next (hostStore .irqEn d s)

/-- `WR.FIRE_DELAY` (R146): plain store; any value is accepted. -/
def execWrFireDelay (d : Word) (s : State) : Host.Outcome State Fault Refusal := .next (hostStore .fireDelay d s)

/-- `WR.GUARD` (R147): plain store. -/
def execWrGuard (d : Word) (s : State) : Host.Outcome State Fault Refusal := .next (hostStore .guard d s)

/-- `WR.ZC_TIMEOUT` (R148): plain store. -/
def execWrZcTimeout (d : Word) (s : State) : Host.Outcome State Fault Refusal := .next (hostStore .zcTimeout d s)

/-- `WR.TEMP` (R149): plain store. -/
def execWrTemp (d : Word) (s : State) : Host.Outcome State Fault Refusal := .next (hostStore .temp d s)

/-- `WR.SETPOINT` (R150): plain store, not bounded by `SP_MIN` and `SP_MAX`. -/
def execWrSetpoint (d : Word) (s : State) : Host.Outcome State Fault Refusal := .next (hostStore .setpoint d s)

/-- `WR.SP_STEP` (R151): plain store. -/
def execWrSpStep (d : Word) (s : State) : Host.Outcome State Fault Refusal := .next (hostStore .spStep d s)

/-- `WR.SP_MIN` (R152): plain store. -/
def execWrSpMin (d : Word) (s : State) : Host.Outcome State Fault Refusal := .next (hostStore .spMin d s)

/-- `WR.SP_MAX` (R153): plain store. -/
def execWrSpMax (d : Word) (s : State) : Host.Outcome State Fault Refusal := .next (hostStore .spMax d s)

/-- `WR.Q0` (R154): plain store. -/
def execWrQ0 (d : Word) (s : State) : Host.Outcome State Fault Refusal := .next (hostStore .q0 d s)

/-- `WR.Q1` (R155): plain store. -/
def execWrQ1 (d : Word) (s : State) : Host.Outcome State Fault Refusal := .next (hostStore .q1 d s)

/-- `WR.Q2` (R156): plain store. -/
def execWrQ2 (d : Word) (s : State) : Host.Outcome State Fault Refusal := .next (hostStore .q2 d s)

/-- `WR.TS` (R157): plain store. -/
def execWrTs (d : Word) (s : State) : Host.Outcome State Fault Refusal := .next (hostStore .ts d s)

/-- `WR.DB_WINDOW` (R158): plain store. -/
def execWrDbWindow (d : Word) (s : State) : Host.Outcome State Fault Refusal := .next (hostStore .dbWindow d s)

/-- `WR.BTN_POL` (R159): plain store of 5 bits. -/
def execWrBtnPol (d : Word) (s : State) : Host.Outcome State Fault Refusal := .next (hostStore .btnPol d s)

/-- `WR.STEP_HALF` (R161): plain store. -/
def execWrStepHalf (d : Word) (s : State) : Host.Outcome State Fault Refusal := .next (hostStore .stepHalf d s)

end Sys2Proof.Machine
end

