-- ==== Sys2Proof/Machine/Motion.lean ====
section
/-! DEFINITION. The transitions of the motion state machine (R311 to R313), phase 5, the pulse generator (R316), and phase 6, the flag
receiver (R318). -/

namespace Sys2Proof.Machine

/-- RIGHT on the working copy (R311). -/
def rightTransition (m : MotRegs) : MotRegs :=
  if m.paused = false ∧ m.dir ≠ .right then { m with motDir := true, motEn := true, dir := .right, flags := flagsRight }
  else m

/-- LEFT on the working copy (R312). -/
def leftTransition (m : MotRegs) : MotRegs :=
  if m.paused = false ∧ m.dir ≠ .left then { m with motDir := false, motEn := true, dir := .left, flags := flagsLeft }
  else m

/-- PAUSE on the working copy (R313): entering pause clears the direction and shows PAUSED; leaving it changes `PAUSED` alone. -/
def pauseTransition (m : MotRegs) : MotRegs :=
  if m.paused = false then { m with paused := true, dir := .none, flags := flagsPaused }
  else { m with paused := false }

/-- `STEP.COUNT` (R316): inside a high or low interval. -/
def execStepCount (s : State) : Host.Outcome State Fault Refusal :=
  .next (s.when (!s.inp.rst && s.cur.mot.stepCnt != 0#32)
    (·.updMot (fun m => { m with stepCnt := s.cur.mot.stepCnt - 1#32 })))

/-- `STEP.FALL` (R316): the end of the high interval; the low interval that follows lasts at least one tick. -/
def execStepFall (s : State) : Host.Outcome State Fault Refusal :=
  .next (s.when (!s.inp.rst && s.cur.mot.stepCnt == 0#32 && s.cur.mot.step)
    (·.updMot (fun m => { m with step := false, stepCnt := decToZero s.cur.mot.stepHalf })))

/-- At a pulse boundary the generator starts a pulse (R316): driving, with a non-zero half-period. -/
def pulseDue (m : MotRegs) : Bool := drive m && m.stepHalf != 0#32

/-- `STEP.RISE` (R316): a pulse boundary, driving in `S_t`. -/
def execStepRise (s : State) : Host.Outcome State Fault Refusal :=
  .next (s.when (!s.inp.rst && s.cur.mot.stepCnt == 0#32 && !s.cur.mot.step && pulseDue s.cur.mot)
    (·.updMot (fun m => { m with step := true, stepCnt := s.cur.mot.stepHalf - 1#32 })))

/-- `STEP.IDLE` (R316): a pulse boundary with nothing to start. Its rule is "nothing (STEP = 0, STEP_CNT = 0)": where its condition
holds both are 0 already, and it writes no register. -/
def execStepIdle (s : State) : Host.Outcome State Fault Refusal := .next s

/-- `FLAGIN.SAMPLE` (R318) of the lines `f`. -/
def execFlaginSample (f : BitVec 3) (s : State) : Host.Outcome State Fault Refusal :=
  .next (s.when (!s.inp.rst) (·.updRx (fun _ => { flagInS := f, lastDir := receiveFlags f s.cur.rx.lastDir })))

end Sys2Proof.Machine
end

