-- ==== Sys2Proof/Machine/Debounce.lean ====
section
/-! DEFINITION. Phase 4: the five debounced edge latches (R290 to R296) and what an accepted event runs: the setpoint (R297) or the
motion state machine. The working copies are `nxt.pid.setpoint` and `nxt.mot` (R296). -/

namespace Sys2Proof.Machine

/-- Accepting an event on `b` (R293): the hold-off takes `DB_WINDOW − 1` (0 for a window of 0) and `BTN_ACCi` is set. -/
def acceptEvent (b : Btn) (s : State) : State :=
  (s.setEvent (evBtnAcc b)).updDb (setHold b (decToZero s.cur.db.window))

/-- `BTNi.EDGE` with the transition `f` (R291, R293): a discarded edge and a level held do nothing here. -/
def buttonEdge (b : Btn) (p : Bool) (f : State → State) (s : State) : State :=
  s.when (accepted s b p) (fun u => f (acceptEvent b u))

/-- A setpoint event by `delta` on the working setpoint: exact, then bounded, `SP_MIN` winning over `SP_MAX` (R297). -/
def moveSetpoint (delta : Int) (s : State) : State :=
  s.updPid (fun p =>
    { p with setpoint := wordOfInt (clampInt (p.setpoint.toInt + delta) s.cur.pid.spMin.toInt s.cur.pid.spMax.toInt) })

/-- `BTN0.EDGE` RIGHT (R291, R293, R311). -/
def execBtn0Edge (p : Bool) (s : State) : Host.Outcome State Fault Refusal :=
  .next (buttonEdge .right p (·.updMot rightTransition) s)

/-- `BTN1.EDGE` LEFT (R291, R293, R312). -/
def execBtn1Edge (p : Bool) (s : State) : Host.Outcome State Fault Refusal :=
  .next (buttonEdge .left p (·.updMot leftTransition) s)

/-- `BTN2.EDGE` PAUSE (R291, R293, R313). -/
def execBtn2Edge (p : Bool) (s : State) : Host.Outcome State Fault Refusal :=
  .next (buttonEdge .pause p (·.updMot pauseTransition) s)

/-- `BTN3.EDGE` SP_UP (R291, R293, R297). -/
def execBtn3Edge (p : Bool) (s : State) : Host.Outcome State Fault Refusal :=
  .next (buttonEdge .spUp p (fun u => moveSetpoint u.cur.pid.spStep.toInt u) s)

/-- `BTN4.EDGE` SP_DOWN (R291, R293, R297). -/
def execBtn4Edge (p : Bool) (s : State) : Host.Outcome State Fault Refusal :=
  .next (buttonEdge .spDown p (fun u => moveSetpoint (-u.cur.pid.spStep.toInt) u) s)

/-- `HOLDi.DEC` (R295): on every tick without an accepted event on `b`. -/
def holdDec (b : Btn) (s : State) : State :=
  s.when (!s.inp.rst && !accepted s b (btnLevel s.inp b)) (·.updDb (setHold b (decToZero (holdOf b s.cur.db))))

/-- `HOLD0.DEC` (R295). -/
def execHold0Dec (s : State) : Host.Outcome State Fault Refusal := .next (holdDec .right s)

/-- `HOLD1.DEC` (R295). -/
def execHold1Dec (s : State) : Host.Outcome State Fault Refusal := .next (holdDec .left s)

/-- `HOLD2.DEC` (R295). -/
def execHold2Dec (s : State) : Host.Outcome State Fault Refusal := .next (holdDec .pause s)

/-- `HOLD3.DEC` (R295). -/
def execHold3Dec (s : State) : Host.Outcome State Fault Refusal := .next (holdDec .spUp s)

/-- `HOLD4.DEC` (R295). -/
def execHold4Dec (s : State) : Host.Outcome State Fault Refusal := .next (holdDec .spDown s)

end Sys2Proof.Machine
end

