-- ==== Sys2Proof/Machine/Reset.lean ====
section
/-! DEFINITION. `RST` (R370) and phase 1, `NOW.TICK` (R31). -/

namespace Sys2Proof.Machine

/-- `RST` (R370): in a tick with `rst = 1` the next state is the reset state with the pins of this tick captured, no event is
set, and every other operation of the tick is void; the bus response is still formed from `S_t` (R140). -/
def execRst (s : State) : Host.Outcome State Fault Refusal :=
  .next (s.when s.inp.rst
    (fun u => { u with nxt := Regs.resetWith u.inp.zcIn u.inp.btn u.inp.flagIn, evSet := 0#13 }))

/-- `NOW.TICK` (R31): every tick with `rst = 0`, modulo 2^32. -/
def execNowTick (s : State) : Host.Outcome State Fault Refusal :=
  .next (s.when (!s.inp.rst) (·.updSys (fun y => { y with now := s.cur.sys.now + 1#32 })))

end Sys2Proof.Machine
end

