-- ==== Sys2Proof/Machine/Dispatch.lean ====
section
/-! DEFINITION. One arm for each operation of the opcode table: what the operation contributes to the tick. -/

namespace Sys2Proof.Machine

def exec (i : Instr) (s : State) : Host.Outcome State Fault Refusal :=
  match i with
  | .nop => Sys2Proof.Machine.execNop s
  | .rdCtrl => Sys2Proof.Machine.execRdCtrl s
  | .rdStatus => Sys2Proof.Machine.execRdStatus s
  | .rdEvent => Sys2Proof.Machine.execRdEvent s
  | .rdIrqEn => Sys2Proof.Machine.execRdIrqEn s
  | .rdNow => Sys2Proof.Machine.execRdNow s
  | .rdLastCross => Sys2Proof.Machine.execRdLastCross s
  | .rdPeriod => Sys2Proof.Machine.execRdPeriod s
  | .rdFireDelay => Sys2Proof.Machine.execRdFireDelay s
  | .rdDlyCnt => Sys2Proof.Machine.execRdDlyCnt s
  | .rdGuard => Sys2Proof.Machine.execRdGuard s
  | .rdZcTimeout => Sys2Proof.Machine.execRdZcTimeout s
  | .rdZcSilence => Sys2Proof.Machine.execRdZcSilence s
  | .rdTemp => Sys2Proof.Machine.execRdTemp s
  | .rdSetpoint => Sys2Proof.Machine.execRdSetpoint s
  | .rdSpStep => Sys2Proof.Machine.execRdSpStep s
  | .rdSpMin => Sys2Proof.Machine.execRdSpMin s
  | .rdSpMax => Sys2Proof.Machine.execRdSpMax s
  | .rdQ0 => Sys2Proof.Machine.execRdQ0 s
  | .rdQ1 => Sys2Proof.Machine.execRdQ1 s
  | .rdQ2 => Sys2Proof.Machine.execRdQ2 s
  | .rdE1 => Sys2Proof.Machine.execRdE1 s
  | .rdE2 => Sys2Proof.Machine.execRdE2 s
  | .rdPidOut => Sys2Proof.Machine.execRdPidOut s
  | .rdPidRaw => Sys2Proof.Machine.execRdPidRaw s
  | .rdTs => Sys2Proof.Machine.execRdTs s
  | .rdTsCnt => Sys2Proof.Machine.execRdTsCnt s
  | .rdSampleCount => Sys2Proof.Machine.execRdSampleCount s
  | .rdPidCmd => Sys2Proof.Machine.execRdPidCmd s
  | .rdDbWindow => Sys2Proof.Machine.execRdDbWindow s
  | .rdBtnPol => Sys2Proof.Machine.execRdBtnPol s
  | .rdDbHold0 => Sys2Proof.Machine.execRdDbHold0 s
  | .rdDbHold1 => Sys2Proof.Machine.execRdDbHold1 s
  | .rdDbHold2 => Sys2Proof.Machine.execRdDbHold2 s
  | .rdDbHold3 => Sys2Proof.Machine.execRdDbHold3 s
  | .rdDbHold4 => Sys2Proof.Machine.execRdDbHold4 s
  | .rdMotion => Sys2Proof.Machine.execRdMotion s
  | .rdStepHalf => Sys2Proof.Machine.execRdStepHalf s
  | .rdStepCnt => Sys2Proof.Machine.execRdStepCnt s
  | .rdFlagRx => Sys2Proof.Machine.execRdFlagRx s
  | .wrCtrl d => Sys2Proof.Machine.execWrCtrl d s
  | .wrRoStatus d => Sys2Proof.Machine.execWrRoStatus d s
  | .wrEvent d => Sys2Proof.Machine.execWrEvent d s
  | .wrIrqEn d => Sys2Proof.Machine.execWrIrqEn d s
  | .wrRoNow d => Sys2Proof.Machine.execWrRoNow d s
  | .wrRoLastCross d => Sys2Proof.Machine.execWrRoLastCross d s
  | .wrRoPeriod d => Sys2Proof.Machine.execWrRoPeriod d s
  | .wrFireDelay d => Sys2Proof.Machine.execWrFireDelay d s
  | .wrRoDlyCnt d => Sys2Proof.Machine.execWrRoDlyCnt d s
  | .wrGuard d => Sys2Proof.Machine.execWrGuard d s
  | .wrZcTimeout d => Sys2Proof.Machine.execWrZcTimeout d s
  | .wrRoZcSilence d => Sys2Proof.Machine.execWrRoZcSilence d s
  | .wrTemp d => Sys2Proof.Machine.execWrTemp d s
  | .wrSetpoint d => Sys2Proof.Machine.execWrSetpoint d s
  | .wrSpStep d => Sys2Proof.Machine.execWrSpStep d s
  | .wrSpMin d => Sys2Proof.Machine.execWrSpMin d s
  | .wrSpMax d => Sys2Proof.Machine.execWrSpMax d s
  | .wrQ0 d => Sys2Proof.Machine.execWrQ0 d s
  | .wrQ1 d => Sys2Proof.Machine.execWrQ1 d s
  | .wrQ2 d => Sys2Proof.Machine.execWrQ2 d s
  | .wrRoE1 d => Sys2Proof.Machine.execWrRoE1 d s
  | .wrRoE2 d => Sys2Proof.Machine.execWrRoE2 d s
  | .wrRoPidOut d => Sys2Proof.Machine.execWrRoPidOut d s
  | .wrRoPidRaw d => Sys2Proof.Machine.execWrRoPidRaw d s
  | .wrTs d => Sys2Proof.Machine.execWrTs d s
  | .wrRoTsCnt d => Sys2Proof.Machine.execWrRoTsCnt d s
  | .wrRoSampleCount d => Sys2Proof.Machine.execWrRoSampleCount d s
  | .wrPidCmd d => Sys2Proof.Machine.execWrPidCmd d s
  | .wrDbWindow d => Sys2Proof.Machine.execWrDbWindow d s
  | .wrBtnPol d => Sys2Proof.Machine.execWrBtnPol d s
  | .wrRoDbHold0 d => Sys2Proof.Machine.execWrRoDbHold0 d s
  | .wrRoDbHold1 d => Sys2Proof.Machine.execWrRoDbHold1 d s
  | .wrRoDbHold2 d => Sys2Proof.Machine.execWrRoDbHold2 d s
  | .wrRoDbHold3 d => Sys2Proof.Machine.execWrRoDbHold3 d s
  | .wrRoDbHold4 d => Sys2Proof.Machine.execWrRoDbHold4 d s
  | .wrRoMotion d => Sys2Proof.Machine.execWrRoMotion d s
  | .wrStepHalf d => Sys2Proof.Machine.execWrStepHalf d s
  | .wrRoStepCnt d => Sys2Proof.Machine.execWrRoStepCnt d s
  | .wrRoFlagRx d => Sys2Proof.Machine.execWrRoFlagRx d s
  | .busUnmapped w a d => Sys2Proof.Machine.execBusUnmapped w a d s
  | .busMisaligned w a b d => Sys2Proof.Machine.execBusMisaligned w a b d s
  | .rst => Sys2Proof.Machine.execRst s
  | .zcRise => Sys2Proof.Machine.execZcRise s
  | .btn0Edge p => Sys2Proof.Machine.execBtn0Edge p s
  | .btn1Edge p => Sys2Proof.Machine.execBtn1Edge p s
  | .btn2Edge p => Sys2Proof.Machine.execBtn2Edge p s
  | .btn3Edge p => Sys2Proof.Machine.execBtn3Edge p s
  | .btn4Edge p => Sys2Proof.Machine.execBtn4Edge p s
  | .flaginSample f => Sys2Proof.Machine.execFlaginSample f s
  | .nowTick => Sys2Proof.Machine.execNowTick s
  | .zcOff => Sys2Proof.Machine.execZcOff s
  | .dlyCount => Sys2Proof.Machine.execDlyCount s
  | .dlyExpire => Sys2Proof.Machine.execDlyExpire s
  | .wdgCount => Sys2Proof.Machine.execWdgCount s
  | .wdgFire => Sys2Proof.Machine.execWdgFire s
  | .tsCount => Sys2Proof.Machine.execTsCount s
  | .tsTick => Sys2Proof.Machine.execTsTick s
  | .pidSample => Sys2Proof.Machine.execPidSample s
  | .hold0Dec => Sys2Proof.Machine.execHold0Dec s
  | .hold1Dec => Sys2Proof.Machine.execHold1Dec s
  | .hold2Dec => Sys2Proof.Machine.execHold2Dec s
  | .hold3Dec => Sys2Proof.Machine.execHold3Dec s
  | .hold4Dec => Sys2Proof.Machine.execHold4Dec s
  | .stepCount => Sys2Proof.Machine.execStepCount s
  | .stepFall => Sys2Proof.Machine.execStepFall s
  | .stepRise => Sys2Proof.Machine.execStepRise s
  | .stepIdle => Sys2Proof.Machine.execStepIdle s

end Sys2Proof.Machine
end

