-- ==== Sys2Proof/Machine/Tick.lean ====
section
/-! DEFINITION. One tick (R7, R9): sampling the next input vector, running every operation of the tick through `exec`, and making
`S_{t+1}` the state. Step.lean only calls this. -/

namespace Sys2Proof.Machine

/-- The input vector of the next tick: the head of the stimulus, or, after its end, the levels the pins hold and no
transaction (R120; log 2). -/
def State.nextInput (s : State) : Inputs :=
  match s.stimulus with
  | [] => { s.inp with valid := false }
  | i :: _ => i

/-- `TW` of an input vector (R111). -/
def Inputs.tw (i : Inputs) : TransWord :=
  BitVec.ofBool i.valid ++ BitVec.ofBool i.write ++ i.addr ++ i.wdata

/-- `PV` of an input vector (R110). -/
def Inputs.pv (i : Inputs) : PinWord := pinWord i.rst i.zcIn i.btn i.flagIn

/-- The format I operations in the order of the phases (R9, R116). Each has its condition in its meaning. -/
def internalOps : List Instr :=
  [.nowTick, .zcOff, .dlyCount, .dlyExpire, .wdgCount, .wdgFire, .tsCount, .tsTick, .pidSample,
    .hold0Dec, .hold1Dec, .hold2Dec, .hold3Dec, .hold4Dec, .stepCount, .stepFall, .stepRise, .stepIdle]

/-- The operations of a tick: those of its pins, those of the state, and its bus operation. The order is that of the phases where two
write one register: a crossing before a sample before the host (R98), the timer before the watchdog (R347 (d)), the buttons in
index order (R296) (log 5). -/
def schedule (i : Inputs) : List Instr := decodePins i.pv ++ internalOps ++ [decodeBus i.tw]

/-- `S_{t+1}` before any operation: `S_t` with this tick's samples of `zc_in` and `btn` (R62). -/
def samplePins (i : Inputs) (r : Regs) : Regs :=
  { r with zc := { r.zc with zcPrev := i.zcIn }, db := { r.db with prev := i.btn } }

/-- The start of a tick: the next input vector is sampled and the tick's bookkeeping is empty. -/
def beginTick (s : State) : State :=
  { cur := s.cur
    nxt := samplePins s.nextInput s.cur
    evSet := 0#13
    inp := s.nextInput
    stimulus := s.stimulus.tail
    resp := BusResponse.idle }

/-- `EVENT' <- (S.EVENT and not w1c) or ev_set` (R99), on the registers built in this tick. -/
def mergeEvents (r : Regs) (set : Events) : Regs := { r with sys := { r.sys with event := r.sys.event ||| set } }

/-- The end of a tick: `S_{t+1}` becomes the state. -/
def commitTick (s : State) : State :=
  { s with cur := mergeEvents s.nxt s.evSet, nxt := mergeEvents s.nxt s.evSet, evSet := 0#13 }

/-- An outcome followed by what depends on its state; a fault or a refusal ends it. -/
def andThen (o : Host.Outcome State Fault Refusal) (f : State → Host.Outcome State Fault Refusal) :
    Host.Outcome State Fault Refusal :=
  match o with
  | .next s => f s
  | .fault r => .fault r
  | .refused r => .refused r

/-- Runs operations one after another. -/
def runOps : List Instr → State → Host.Outcome State Fault Refusal
  | [], s => .next s
  | i :: is, s => andThen (exec i s) (runOps is)

/-- One application of the block's `step` (R7, R9). -/
def tick (s : State) : Host.Outcome State Fault Refusal :=
  andThen (runOps (schedule s.nextInput) (beginTick s)) (fun t => .next (commitTick t))

/-- The input vector that presents a table word: a pin vector with no transaction, or a transaction with the pins as they come
and no reset (log 8). -/
def wordInputs (nbits w : Nat) (i : Inputs) : Inputs :=
  if nbits = 0 then i
  else if nbits ≤ 16 then
    let pv := BitVec.ofNat 10 w
    { i with rst := pvRst pv, zcIn := pvZc pv, btn := pvBtn pv, flagIn := pvFlagIn pv, valid := false }
  else
    let tw := BitVec.ofNat 42 w
    { i with rst := false, valid := twValid tw, write := twWrite tw, addr := twAddr tw, wdata := twData tw }

/-- `s` with a table word presented in its next tick. -/
def presentWord (s : State) (nbits w : Nat) : State :=
  { s with stimulus := wordInputs nbits w s.nextInput :: s.stimulus.tail }

end Sys2Proof.Machine
end

