-- ==== Sys2Proof/Machine/Step.lean ====
section
/-! DEFINITION. The step of the machine: one tick. -/

namespace Sys2Proof.Machine

/-- One step is one tick (R7). -/
def step (s : State) : Host.Outcome State Fault Refusal := tick s

/-- `s` with a word of the opcode table presented where the next step samples its inputs: as the head of the stimulus. -/
def State.withFetchWord (s : State) (nbits w : Nat) : State := presentWord s nbits w

end Sys2Proof.Machine
end

