-- ==== Sys2Proof/Safety.lean ====
section
/-! DEFINITION. What counts as a safe state of the block, and the terms the statements are made in: the invariants R66 lists with those
of R314 and R390, and the conditions of a tick as the spec words them, on `S_t` and `IN_t` alone. Each is decidable. -/

namespace Sys2Proof.Machine

/-! ### Safe states -/

/-- R66 (a): the gate is asserted only with the unit enabled and in sync. -/
abbrev GateGuarded (r : Regs) : Prop := r.zc.triac = true → r.zc.heatEn = true ∧ syncLost r = false

/-- R66 (b): a running timer means an asserted gate. -/
abbrev TimerUnderGate (r : Regs) : Prop := r.zc.dlyCnt ≠ 0#32 → r.zc.triac = true

/-- R390: the timer never has more to count than the measured period. -/
abbrev TimerWithinPeriod (r : Regs) : Prop := r.zc.dlyCnt ≤ r.zc.period

/-- R66 (c): paused means no direction. -/
abbrev PausedHasNoDirection (r : Regs) : Prop := r.mot.paused = true → r.mot.dir = .none

/-- R66 (d): `FLAGS` is one of 000, 001, 010, 100. -/
abbrev FlagsExclusive (r : Regs) : Prop :=
  r.mot.flags = 0b000#3 ∨ r.mot.flags = 0b001#3 ∨ r.mot.flags = 0b010#3 ∨ r.mot.flags = 0b100#3

/-- R314, R315: while driving the flags, `MOT_DIR` and `MOT_EN` agree with the direction; with none, the flags show PAUSED or nothing, and
PAUSED while paused. -/
abbrev FlagsAgree (r : Regs) : Prop :=
  (r.mot.dir = .right → r.mot.flags = 0b001#3 ∧ r.mot.motDir = true ∧ r.mot.motEn = true) ∧
  (r.mot.dir = .left → r.mot.flags = 0b010#3 ∧ r.mot.motDir = false ∧ r.mot.motEn = true) ∧
  (r.mot.dir = .none → r.mot.flags = 0b100#3 ∨ r.mot.flags = 0b000#3) ∧
  (r.mot.paused = true → r.mot.flags = 0b100#3)

/-- R66 (e): the power command is at most 100.0. -/
abbrev PowerInRange (r : Regs) : Prop := r.pid.pidOut.toNat ≤ 6553600

/-- The invariant of the block. -/
structure Inv (r : Regs) : Prop where
  gateGuarded : GateGuarded r
  timerUnderGate : TimerUnderGate r
  timerWithinPeriod : TimerWithinPeriod r
  pausedHasNoDirection : PausedHasNoDirection r
  flagsExclusive : FlagsExclusive r
  flagsAgree : FlagsAgree r
  powerInRange : PowerInRange r

/-- The state between two ticks: nothing is pending and the registers being built are the registers (log 5). -/
abbrev BetweenTicks (s : State) : Prop := s.nxt = s.cur ∧ s.evSet = 0#13

/-! ### The machine and its inputs -/

/-- `s` with `i` as the input vector of its next tick. -/
def State.given (s : State) (i : Inputs) : State := { s with stimulus := i :: s.stimulus.tail }

/-- The same pins, no transaction. -/
def Inputs.silent (i : Inputs) : Inputs := { i with valid := false }

/-- The same pins, a write of `d` at `a`. -/
def Inputs.storing (i : Inputs) (a : BitVec 8) (d : Word) : Inputs :=
  { i with valid := true, write := true, addr := a, wdata := d }

/-- `u` is the state `k` ticks after `s`. -/
def After : Nat → State → State → Prop
  | 0, s, u => u = s
  | k + 1, s, u => ∃ t, step s = .next t ∧ After k t u

/-- `s` with the answer of a legal transaction on the bus (R140). -/
def State.replied (s : State) (w : Word) : State := { s with resp := { rdata := w, err := false, cause := none } }

/-- `s` with a bus error on the bus (R341). -/
def State.rejected (s : State) (c : BusCause) : State :=
  { s with resp := { rdata := 0#32, err := true, cause := some c } }

/-- The addresses of the 20 read-only registers (R162). -/
def readOnlyAddresses : List (BitVec 8) :=
  [0x04#8, 0x10#8, 0x14#8, 0x18#8, 0x20#8, 0x2C#8, 0x50#8, 0x54#8, 0x58#8, 0x5C#8, 0x64#8, 0x68#8, 0x78#8, 0x7C#8,
   0x80#8, 0x84#8, 0x88#8, 0x8C#8, 0x94#8, 0x98#8]

/-! ### Conditions of a tick, on `S_t` and `IN_t` -/

/-- This tick has a write to the register at `a`. -/
abbrev HostWrites (i : Inputs) (a : BitVec 8) : Prop := i.valid = true ∧ i.write = true ∧ i.addr = a

/-- The transaction of this tick is misaligned (R341). -/
abbrev Misaligned (i : Inputs) : Prop := i.valid = true ∧ i.addr.toNat % 4 ≠ 0

/-- The transaction of this tick is aligned and unmapped (R341). -/
abbrev Unmapped (i : Inputs) : Prop := i.valid = true ∧ i.addr.toNat % 4 = 0 ∧ 0x9C ≤ i.addr.toNat

/-- The transaction of this tick writes a read-only register (R341). -/
abbrev WritesReadOnly (i : Inputs) : Prop := i.valid = true ∧ i.write = true ∧ i.addr ∈ readOnlyAddresses

/-- `kill(t)` (R230). -/
abbrev Killed (i : Inputs) : Prop := HostWrites i 0x00#8 ∧ i.wdata.getLsbD 0 = false

/-- `heat_on(t)` (R230). -/
abbrev UnitOn (r : Regs) (i : Inputs) : Prop :=
  r.zc.heatEn = true ∧ r.sys.event.getLsbD 4 = false ∧ ¬Killed i

/-- A rising edge of `zc_in` (R231). -/
abbrev ZcRises (r : Regs) (i : Inputs) : Prop := i.zcIn = true ∧ r.zc.zcPrev = false

/-- A crossing occurs at this tick (R231). -/
abbrev Crosses (r : Regs) (i : Inputs) : Prop := i.rst = false ∧ UnitOn r i ∧ ZcRises r i

/-- The unit is on and no crossing occurs at this tick (R237, R238). -/
abbrev Quiet (r : Regs) (i : Inputs) : Prop := i.rst = false ∧ UnitOn r i ∧ ¬ZcRises r i

/-- `p` of R233. -/
abbrev crossedPeriod (r : Regs) : Word := if r.zc.haveEdge then r.sys.now - r.zc.lastCross else r.zc.period

/-- The condition of `WDG.FIRE` on `S_t` (R238). -/
abbrev SilenceTooLong (r : Regs) : Prop :=
  r.zc.zcTimeout ≠ 0#32 ∧ r.zc.zcTimeout.toNat ≤ min (r.zc.zcSilence.toNat + 1) (2 ^ 32 - 1)

/-- `auto` (R260). -/
abbrev SampleTick (r : Regs) : Prop := r.pid.ts ≠ 0#32 ∧ r.pid.ts.toNat ≤ r.pid.tsCnt.toNat + 1

/-- A sample is computed at this tick (R260). -/
abbrev Samples (r : Regs) (i : Inputs) : Prop :=
  i.rst = false ∧ (SampleTick r ∨ HostWrites i 0x6C#8 ∧ i.wdata.getLsbD 0 = true)

/-- A level `p` on the button of index `k` is a raw edge of the selected polarity (R291). -/
abbrev EdgeTo (r : Regs) (k : Nat) (p : Bool) : Prop :=
  r.db.pol.getLsbD k = false ∧ p = false ∧ r.db.prev.getLsbD k = true ∨
    r.db.pol.getLsbD k = true ∧ p = true ∧ r.db.prev.getLsbD k = false

/-- The raw edge of R291 on the button of index `k`. -/
abbrev RawEdge (r : Regs) (i : Inputs) (k : Nat) : Prop := EdgeTo r k (i.btn.getLsbD k)

/-- An edge on button `b` is accepted at this tick (R293). -/
abbrev Accepts (r : Regs) (i : Inputs) (b : Btn) : Prop :=
  i.rst = false ∧ RawEdge r i (btnIndex b) ∧ holdOf b r.db = 0#32

/-- Bit `k` of `S.EVENT and not w1c` (R99). -/
def eventKept (r : Regs) (i : Inputs) (k : Nat) : Bool :=
  r.sys.event.getLsbD k && !(decide (HostWrites i 0x08#8) && i.wdata.getLsbD k)

/-! ### The quantities of a sample, as the rules write them -/

/-- `e0` (R261). -/
def errorOf (p : PidRegs) : Int := max (-2 ^ 31) (min (2 ^ 31 - 1) (p.setpoint.toInt - p.temp.toInt))

/-- `Z` (R262). -/
def accumulated (p : PidRegs) : Int :=
  (p.pidOut.toNat : Int) * 65536 + p.q0.toInt * errorOf p + p.q1.toInt * p.e1.toInt + p.q2.toInt * p.e2.toInt

/-- `raw` (R263). -/
def rawOf (p : PidRegs) : Int := (accumulated p).fdiv 65536

/-- `u` (R264). -/
def powerOf (p : PidRegs) : Int := max 0 (min 6553600 (rawOf p))

/-- `fd` (R265). -/
def delayOf (r : Regs) : Int :=
  max 0 (min (r.zc.period.toNat : Int)
    (if r.zc.period.toNat < r.zc.guard.toNat then 0
      else (((r.zc.period.toNat : Int) - r.zc.guard.toNat) * powerOf r.pid).fdiv 6553600))

/-! ### The motion side -/

/-- The motion state without the pulse generator's registers: (`DIR`, `PAUSED`, `MOT_DIR`, `MOT_EN`, `FLAGS`), a row of R315. -/
structure MotionRow where
  dir : Dir
  paused : Bool
  motDir : Bool
  motEn : Bool
  flags : BitVec 3
  deriving DecidableEq, Repr

/-- The row a state shows. -/
def motionRow (m : MotRegs) : MotionRow where
  dir := m.dir
  paused := m.paused
  motDir := m.motDir
  motEn := m.motEn
  flags := m.flags

/-- The motion side agrees: its state machine, pulse generator and latches 0 to 2 (R319). -/
abbrev SameMotionSide (r q : Regs) : Prop :=
  r.mot = q.mot ∧ r.db.window = q.db.window ∧ r.db.hold0 = q.db.hold0 ∧ r.db.hold1 = q.db.hold1 ∧
    r.db.hold2 = q.db.hold2 ∧ ∀ k < 3, r.db.pol.getLsbD k = q.db.pol.getLsbD k ∧ r.db.prev.getLsbD k = q.db.prev.getLsbD k

/-- The heat side agrees: time base, zero-cross unit, PID unit, flag receiver, latches 3 and 4, and the events but `BTN_ACC0` to `BTN_ACC2`
(R319). -/
abbrev SameHeatSide (r q : Regs) : Prop :=
  r.sys.now = q.sys.now ∧ r.zc = q.zc ∧ r.pid = q.pid ∧ r.rx = q.rx ∧ r.db.window = q.db.window ∧
    r.db.hold3 = q.db.hold3 ∧ r.db.hold4 = q.db.hold4 ∧
    (∀ k, 3 ≤ k → k < 5 → r.db.pol.getLsbD k = q.db.pol.getLsbD k ∧ r.db.prev.getLsbD k = q.db.prev.getLsbD k) ∧
    ∀ k < 13, k < 8 ∨ 10 < k → r.sys.event.getLsbD k = q.sys.event.getLsbD k

/-- The two ticks have the same transaction and the same `rst`. -/
abbrev SameBus (i j : Inputs) : Prop :=
  i.rst = j.rst ∧ i.valid = j.valid ∧ i.write = j.write ∧ i.addr = j.addr ∧ i.wdata = j.wdata

/-! ### The reset state -/

/-- The reset state of R370 to R372 with what the reset tick captures of its pins. -/
def resetImage (zc : Bool) (btn : BitVec 5) (flagIn : BitVec 3) : Regs where
  sys := { now := 0, event := 0, irqEn := 0 }
  zc :=
    { heatEn := false, triac := false, haveEdge := false, periodValid := false, zcPrev := zc, lastCross := 0,
      period := 0, fireDelay := 0, dlyCnt := 0, guard := 0, zcTimeout := 0, zcSilence := 0 }
  pid :=
    { temp := 0, setpoint := 0, spStep := 0x00010000, spMin := 0x80000000, spMax := 0x7FFFFFFF, q0 := 0, q1 := 0,
      q2 := 0, e1 := 0, e2 := 0, pidOut := 0, pidRaw := 0, ts := 0, tsCnt := 0, sampleCount := 0 }
  db := { window := 200000, pol := 0, prev := btn, hold0 := 0, hold1 := 0, hold2 := 0, hold3 := 0, hold4 := 0 }
  mot :=
    { dir := .none, paused := false, motDir := false, motEn := false, step := false, flags := 0, stepHalf := 500,
      stepCnt := 0 }
  rx := { flagInS := flagIn, lastDir := .unknown }

end Sys2Proof.Machine
end

