-- ==== Sys2Proof/Certificates/Slice0/Obligations.lean ====
section
/-! DEFINITION. The statements for the provers. Each says which rules of spec/ it formalises; one that rests on a choice of the model names its
log entry. -/

open Sys2Proof Sys2Proof.Machine

/-- Fourteen words written out from the encodings decode to their operations (30_encoding.md section 1, R111, R113,
R115). -/
def Obligations.DecodesWordsOfTheTable : Prop :=
  decodeTableWord 48 0x00000000000 = some .nop ∧
  decodeTableWord 48 0x21800000000 = some .rdPeriod ∧
  decodeTableWord 48 0x29800000000 = some .rdFlagRx ∧
  decodeTableWord 48 0x30000000001 = some (.wrCtrl 1#32) ∧
  decodeTableWord 48 0x30800000025 = some (.wrEvent 0x25#32) ∧
  decodeTableWord 48 0x31C80000003 = some (.wrFireDelay 0x80000003#32) ∧
  decodeTableWord 48 0x36C00000001 = some (.wrPidCmd 1#32) ∧
  decodeTableWord 48 0x31800000005 = some (.wrRoPeriod 5#32) ∧
  decodeTableWord 48 0x2A000000000 = some (.busUnmapped false 0x28#6 0#32) ∧
  decodeTableWord 48 0x31D00000007 = some (.busMisaligned true 7#6 1#2 7#32) ∧
  decodeTableWord 16 0b1011111000 = some .rst ∧
  decodeTableWord 16 0b0111111000 = some .zcRise ∧
  decodeTableWord 16 0b0001111000 = some (.btn4Edge false) ∧
  decodeTableWord 16 0b0011111010 = some (.flaginSample 2#3)

/-- Decoding the transaction word of any well-formed bus operation gives the operation back (30_encoding.md section 1,
R111, R113). -/
def Obligations.EncodedTransactionsDecodeBack : Prop :=
  ∀ (i : Instr) (tw : TransWord), wellFormed i = true → encode i = .bus tw → decodeBus tw = i

/-- Every transaction word is the operation the opcode map gives it (R113). -/
def Obligations.DecodeMapIsTotal : Prop :=
  (∀ (w : Bool) (a : BitVec 8) (d : Word), decodeBus (0#1 ++ BitVec.ofBool w ++ a ++ d) = .nop) ∧
  (∀ (w : Bool) (a : BitVec 8) (d : Word), a.extractLsb' 0 2 ≠ 0#2 →
    decodeBus (1#1 ++ BitVec.ofBool w ++ a ++ d) = .busMisaligned w (a.extractLsb' 2 6) (a.extractLsb' 0 2) d) ∧
  (∀ (w : Bool) (a : BitVec 8) (d : Word), a.extractLsb' 0 2 = 0#2 → 0x9C#8 ≤ a →
    decodeBus (1#1 ++ BitVec.ofBool w ++ a ++ d) = .busUnmapped w (a.extractLsb' 2 6) d) ∧
  (∀ (d : Word), ∀ p ∈ ([(0x00#8, .rdCtrl), (0x04#8, .rdStatus), (0x08#8, .rdEvent), (0x0C#8, .rdIrqEn),
      (0x10#8, .rdNow), (0x14#8, .rdLastCross), (0x18#8, .rdPeriod), (0x1C#8, .rdFireDelay),
      (0x20#8, .rdDlyCnt), (0x24#8, .rdGuard), (0x28#8, .rdZcTimeout), (0x2C#8, .rdZcSilence),
      (0x30#8, .rdTemp), (0x34#8, .rdSetpoint), (0x38#8, .rdSpStep), (0x3C#8, .rdSpMin),
      (0x40#8, .rdSpMax), (0x44#8, .rdQ0), (0x48#8, .rdQ1), (0x4C#8, .rdQ2),
      (0x50#8, .rdE1), (0x54#8, .rdE2), (0x58#8, .rdPidOut), (0x5C#8, .rdPidRaw),
      (0x60#8, .rdTs), (0x64#8, .rdTsCnt), (0x68#8, .rdSampleCount), (0x6C#8, .rdPidCmd),
      (0x70#8, .rdDbWindow), (0x74#8, .rdBtnPol), (0x78#8, .rdDbHold0), (0x7C#8, .rdDbHold1),
      (0x80#8, .rdDbHold2), (0x84#8, .rdDbHold3), (0x88#8, .rdDbHold4), (0x8C#8, .rdMotion),
      (0x90#8, .rdStepHalf), (0x94#8, .rdStepCnt), (0x98#8, .rdFlagRx)] : List (BitVec 8 × Instr)),
    decodeBus (1#1 ++ 0#1 ++ p.1 ++ d) = p.2) ∧
  (∀ (d : Word), ∀ p ∈ ([(0x00#8, .wrCtrl d), (0x04#8, .wrRoStatus d), (0x08#8, .wrEvent d),
      (0x0C#8, .wrIrqEn d), (0x10#8, .wrRoNow d), (0x14#8, .wrRoLastCross d),
      (0x18#8, .wrRoPeriod d), (0x1C#8, .wrFireDelay d), (0x20#8, .wrRoDlyCnt d),
      (0x24#8, .wrGuard d), (0x28#8, .wrZcTimeout d), (0x2C#8, .wrRoZcSilence d),
      (0x30#8, .wrTemp d), (0x34#8, .wrSetpoint d), (0x38#8, .wrSpStep d),
      (0x3C#8, .wrSpMin d), (0x40#8, .wrSpMax d), (0x44#8, .wrQ0 d),
      (0x48#8, .wrQ1 d), (0x4C#8, .wrQ2 d), (0x50#8, .wrRoE1 d),
      (0x54#8, .wrRoE2 d), (0x58#8, .wrRoPidOut d), (0x5C#8, .wrRoPidRaw d),
      (0x60#8, .wrTs d), (0x64#8, .wrRoTsCnt d), (0x68#8, .wrRoSampleCount d),
      (0x6C#8, .wrPidCmd d), (0x70#8, .wrDbWindow d), (0x74#8, .wrBtnPol d),
      (0x78#8, .wrRoDbHold0 d), (0x7C#8, .wrRoDbHold1 d), (0x80#8, .wrRoDbHold2 d),
      (0x84#8, .wrRoDbHold3 d), (0x88#8, .wrRoDbHold4 d), (0x8C#8, .wrRoMotion d),
      (0x90#8, .wrStepHalf d), (0x94#8, .wrRoStepCnt d), (0x98#8, .wrRoFlagRx d)] : List (BitVec 8 × Instr)),
    decodeBus (1#1 ++ 1#1 ++ p.1 ++ d) = p.2) ∧
  (∀ a : BitVec 8, a.extractLsb' 0 2 ≠ 0#2 ∨ 0x9C#8 ≤ a ∨ ∃ k < 39, a = BitVec.ofNat 8 (4 * k))

/-- The decoder answers well-formed operations, and no bit of a write or of a malformed transaction is dropped
(30_encoding.md section 1, R111, R113). -/
def Obligations.DecodedWordsEncodeBack : Prop :=
  (∀ tw : TransWord, wellFormed (decodeBus tw) = true) ∧
  ∀ tw : TransWord, tw.getLsbD 41 = true →
    (tw.getLsbD 40 = true ∨ tw.extractLsb' 32 2 ≠ 0#2 ∨ 0x9C#8 ≤ tw.extractLsb' 32 8) →
    encode (decodeBus tw) = .bus tw

/-- Which operations a pin vector presents, as far as the pins decide it (30_encoding.md section 1, R110, R115). -/
def Obligations.PinVectorsPresentTheirOperations : Prop :=
  (∀ pv : PinWord, pv.getLsbD 9 = true → decodePins pv = [.rst]) ∧
  (∀ pv : PinWord, pv.getLsbD 9 = false →
    .rst ∉ decodePins pv ∧
    (.zcRise ∈ decodePins pv ↔ pv.getLsbD 8 = true) ∧
    (∀ p, .btn0Edge p ∈ decodePins pv ↔ pv.getLsbD 3 = p) ∧
    (∀ p, .btn1Edge p ∈ decodePins pv ↔ pv.getLsbD 4 = p) ∧
    (∀ p, .btn2Edge p ∈ decodePins pv ↔ pv.getLsbD 5 = p) ∧
    (∀ p, .btn3Edge p ∈ decodePins pv ↔ pv.getLsbD 6 = p) ∧
    (∀ p, .btn4Edge p ∈ decodePins pv ↔ pv.getLsbD 7 = p) ∧
    (∀ f, .flaginSample f ∈ decodePins pv ↔ pv.extractLsb' 0 3 = f)) ∧
  ∀ (i : Instr) (pv : PinWord), encode i = .pins pv → i ∈ decodePins pv

/-- The operation decoded from a table word is among those the next step runs when the word is presented
(30_encoding.md section 1, R110). -/
def Obligations.FetchedWordIsScheduled : Prop :=
  ∀ (s : State) (nbits w : Nat) (i : Instr), decodeTableWord nbits w = some i →
    i ∈ schedule (s.withFetchWord nbits w).nextInput

/-- A step runs exec of every operation of the tick, the decoded ones among them, and commits (00_scope.md section 4,
R7, R9, R110, R116). -/
def Obligations.StepRunsTheScheduledOperations : Prop :=
  ∀ s : State,
    let i := s.nextInput
    let start : State :=
      { cur := s.cur
        nxt := { s.cur with zc := { s.cur.zc with zcPrev := i.zcIn }, db := { s.cur.db with prev := i.btn } }
        evSet := 0
        inp := i
        stimulus := s.stimulus.tail
        resp := { rdata := 0, err := false, cause := none } }
    let ops : List Instr :=
      decodePins (pinWord i.rst i.zcIn i.btn i.flagIn) ++
        [.nowTick, .zcOff, .dlyCount, .dlyExpire, .wdgCount, .wdgFire, .tsCount, .tsTick, .pidSample, .hold0Dec,
          .hold1Dec, .hold2Dec, .hold3Dec, .hold4Dec, .stepCount, .stepFall, .stepRise, .stepIdle] ++
        [decodeBus (BitVec.ofBool i.valid ++ BitVec.ofBool i.write ++ i.addr ++ i.wdata)]
    ∃ u : State,
      ops.foldl (fun (o : Host.Outcome State Fault Refusal) j => match o with | .next v => exec j v | x => x)
        (.next start) = .next u ∧
      let r : Regs := { u.nxt with sys := { u.nxt.sys with event := u.nxt.sys.event ||| u.evSet } }
      step s = .next { u with cur := r, nxt := r, evSet := 0 }

/-- Every step answers a next state, which has sampled exactly one input vector (00_scope.md section 4, R7, R120). -/
def Obligations.StepAlwaysAnswers : Prop :=
  ∀ s : State,
    (∃ t, step s = .next t ∧ t.inp = s.nextInput ∧ t.stimulus = s.stimulus.tail ∧ BetweenTicks t) ∧
    (∀ (i : Inputs) (is : List Inputs), s.stimulus = i :: is → s.nextInput = i) ∧
    (s.stimulus = [] → s.nextInput = { s.inp with valid := false })

/-- The bus response of a tick is that of its bus operation on S_t, whatever the units do and also under reset
(40_bus_ops.md section 1, R140). -/
def Obligations.ResponseComesFromTheStateBeforeTheTick : Prop :=
  ∀ (s t u v : State), v.cur = s.cur → step s = .next t →
    exec (decodeBus (BitVec.ofBool s.nextInput.valid ++ BitVec.ofBool s.nextInput.write ++ s.nextInput.addr ++
      s.nextInput.wdata)) v = .next u →
    t.resp = u.resp

/-- The machine starts in the reset state with the pin-capture bits at their idle levels (70_reset_and_hazards.md
section 1, R372, R373). -/
def Obligations.InitialStateIsTheResetState : Prop :=
  State.reset.cur = resetImage false 0b11111 0b000 ∧ BetweenTicks State.reset ∧ State.reset.stimulus = []

/-- A tick with rst = 1 gives the reset state with the pins captured, and all outputs are 0 after it (R370, R371,
R372). -/
def Obligations.ResetTickGivesTheResetState : Prop :=
  ∀ s : State, s.nextInput.rst = true →
    ∃ t, step s = .next t ∧
      t.cur = resetImage s.nextInput.zcIn s.nextInput.btn s.nextInput.flagIn ∧
      outputs t.cur = { triacGate := false, motDir := false, motEn := false, motStep := false, flagRight := false,
                        flagLeft := false, flagPaused := false, irq := false } ∧
      regRead .status t.cur = 0#22 ++ s.nextInput.btn ++ BitVec.ofBool s.nextInput.zcIn ++ 0#4 ∧
      ∀ u, exec (decodeBus (BitVec.ofBool s.nextInput.valid ++ BitVec.ofBool s.nextInput.write ++
        s.nextInput.addr ++ s.nextInput.wdata)) s = .next u → t.resp = u.resp

/-- NOP answers 0 without error and changes nothing, whatever the other fields hold (R142). -/
def Obligations.NopAnswersNothing : Prop :=
  (∀ (w : Bool) (a : BitVec 8) (d : Word), decodeBus (0#1 ++ BitVec.ofBool w ++ a ++ d) = .nop) ∧
  ∀ s : State, exec .nop s = .next (s.replied 0)

/-- Reads of CTRL, STATUS, EVENT, IRQ_EN and NOW answer their images (R171, R172, R173, R174). -/
def Obligations.ReadsOfControlEventsAndTime : Prop :=
  ∀ (s : State) (d : Word),
    decodeBus (1#1 ++ 0#1 ++ 0x00#8 ++ d) = .rdCtrl ∧
      exec .rdCtrl s = .next (s.replied (0#31 ++ BitVec.ofBool s.cur.zc.heatEn)) ∧
    decodeBus (1#1 ++ 0#1 ++ 0x04#8 ++ d) = .rdStatus ∧
      exec .rdStatus s = .next (s.replied (
      0#20 ++ BitVec.ofBool (decide (s.cur.sys.event &&& s.cur.sys.irqEn ≠ 0)) ++
        BitVec.ofBool (decide (s.cur.mot.dir ≠ .none ∧ s.cur.mot.paused = false)) ++ s.cur.db.prev ++
        BitVec.ofBool s.cur.zc.zcPrev ++ BitVec.ofBool s.cur.zc.periodValid ++ BitVec.ofBool s.cur.zc.haveEdge ++
        BitVec.ofBool (decide (s.cur.zc.dlyCnt ≠ 0)) ++ BitVec.ofBool s.cur.zc.triac)) ∧
    decodeBus (1#1 ++ 0#1 ++ 0x08#8 ++ d) = .rdEvent ∧
      exec .rdEvent s = .next (s.replied (0#19 ++ s.cur.sys.event)) ∧
    decodeBus (1#1 ++ 0#1 ++ 0x0C#8 ++ d) = .rdIrqEn ∧
      exec .rdIrqEn s = .next (s.replied (0#19 ++ s.cur.sys.irqEn)) ∧
    decodeBus (1#1 ++ 0#1 ++ 0x10#8 ++ d) = .rdNow ∧
      exec .rdNow s = .next (s.replied (s.cur.sys.now))

/-- Reads of the seven zero-cross registers answer their values (R176, R177, R178, R179, R180, R181, R182). -/
def Obligations.ReadsOfTheZeroCrossUnit : Prop :=
  ∀ (s : State) (d : Word),
    decodeBus (1#1 ++ 0#1 ++ 0x14#8 ++ d) = .rdLastCross ∧
      exec .rdLastCross s = .next (s.replied (s.cur.zc.lastCross)) ∧
    decodeBus (1#1 ++ 0#1 ++ 0x18#8 ++ d) = .rdPeriod ∧
      exec .rdPeriod s = .next (s.replied (s.cur.zc.period)) ∧
    decodeBus (1#1 ++ 0#1 ++ 0x1C#8 ++ d) = .rdFireDelay ∧
      exec .rdFireDelay s = .next (s.replied (s.cur.zc.fireDelay)) ∧
    decodeBus (1#1 ++ 0#1 ++ 0x20#8 ++ d) = .rdDlyCnt ∧
      exec .rdDlyCnt s = .next (s.replied (s.cur.zc.dlyCnt)) ∧
    decodeBus (1#1 ++ 0#1 ++ 0x24#8 ++ d) = .rdGuard ∧
      exec .rdGuard s = .next (s.replied (s.cur.zc.guard)) ∧
    decodeBus (1#1 ++ 0#1 ++ 0x28#8 ++ d) = .rdZcTimeout ∧
      exec .rdZcTimeout s = .next (s.replied (s.cur.zc.zcTimeout)) ∧
    decodeBus (1#1 ++ 0#1 ++ 0x2C#8 ++ d) = .rdZcSilence ∧
      exec .rdZcSilence s = .next (s.replied (s.cur.zc.zcSilence))

/-- Reads of the temperature, setpoint and coefficient registers answer their values (R183, R184, R185, R186, R187,
R188, R189, R190). -/
def Obligations.ReadsOfThePidParameters : Prop :=
  ∀ (s : State) (d : Word),
    decodeBus (1#1 ++ 0#1 ++ 0x30#8 ++ d) = .rdTemp ∧
      exec .rdTemp s = .next (s.replied (s.cur.pid.temp)) ∧
    decodeBus (1#1 ++ 0#1 ++ 0x34#8 ++ d) = .rdSetpoint ∧
      exec .rdSetpoint s = .next (s.replied (s.cur.pid.setpoint)) ∧
    decodeBus (1#1 ++ 0#1 ++ 0x38#8 ++ d) = .rdSpStep ∧
      exec .rdSpStep s = .next (s.replied (s.cur.pid.spStep)) ∧
    decodeBus (1#1 ++ 0#1 ++ 0x3C#8 ++ d) = .rdSpMin ∧
      exec .rdSpMin s = .next (s.replied (s.cur.pid.spMin)) ∧
    decodeBus (1#1 ++ 0#1 ++ 0x40#8 ++ d) = .rdSpMax ∧
      exec .rdSpMax s = .next (s.replied (s.cur.pid.spMax)) ∧
    decodeBus (1#1 ++ 0#1 ++ 0x44#8 ++ d) = .rdQ0 ∧
      exec .rdQ0 s = .next (s.replied (s.cur.pid.q0)) ∧
    decodeBus (1#1 ++ 0#1 ++ 0x48#8 ++ d) = .rdQ1 ∧
      exec .rdQ1 s = .next (s.replied (s.cur.pid.q1)) ∧
    decodeBus (1#1 ++ 0#1 ++ 0x4C#8 ++ d) = .rdQ2 ∧
      exec .rdQ2 s = .next (s.replied (s.cur.pid.q2))

/-- Reads of the PID results answer their values, and PID_CMD reads 0 (R191, R192, R193, R194, R195, R196, R197,
R198). -/
def Obligations.ReadsOfThePidResults : Prop :=
  ∀ (s : State) (d : Word),
    decodeBus (1#1 ++ 0#1 ++ 0x50#8 ++ d) = .rdE1 ∧
      exec .rdE1 s = .next (s.replied (s.cur.pid.e1)) ∧
    decodeBus (1#1 ++ 0#1 ++ 0x54#8 ++ d) = .rdE2 ∧
      exec .rdE2 s = .next (s.replied (s.cur.pid.e2)) ∧
    decodeBus (1#1 ++ 0#1 ++ 0x58#8 ++ d) = .rdPidOut ∧
      exec .rdPidOut s = .next (s.replied (s.cur.pid.pidOut)) ∧
    decodeBus (1#1 ++ 0#1 ++ 0x5C#8 ++ d) = .rdPidRaw ∧
      exec .rdPidRaw s = .next (s.replied (s.cur.pid.pidRaw)) ∧
    decodeBus (1#1 ++ 0#1 ++ 0x60#8 ++ d) = .rdTs ∧
      exec .rdTs s = .next (s.replied (s.cur.pid.ts)) ∧
    decodeBus (1#1 ++ 0#1 ++ 0x64#8 ++ d) = .rdTsCnt ∧
      exec .rdTsCnt s = .next (s.replied (s.cur.pid.tsCnt)) ∧
    decodeBus (1#1 ++ 0#1 ++ 0x68#8 ++ d) = .rdSampleCount ∧
      exec .rdSampleCount s = .next (s.replied (s.cur.pid.sampleCount)) ∧
    decodeBus (1#1 ++ 0#1 ++ 0x6C#8 ++ d) = .rdPidCmd ∧
      exec .rdPidCmd s = .next (s.replied (0))

/-- Reads of the debounce, motion, pulse and flag registers answer their images (R199, R200, R201, R202, R203, R204,
R205, R206, R207, R208, R209). -/
def Obligations.ReadsOfLatchesMotionAndFlags : Prop :=
  ∀ (s : State) (d : Word),
    decodeBus (1#1 ++ 0#1 ++ 0x70#8 ++ d) = .rdDbWindow ∧
      exec .rdDbWindow s = .next (s.replied (s.cur.db.window)) ∧
    decodeBus (1#1 ++ 0#1 ++ 0x74#8 ++ d) = .rdBtnPol ∧
      exec .rdBtnPol s = .next (s.replied (0#27 ++ s.cur.db.pol)) ∧
    decodeBus (1#1 ++ 0#1 ++ 0x78#8 ++ d) = .rdDbHold0 ∧
      exec .rdDbHold0 s = .next (s.replied (s.cur.db.hold0)) ∧
    decodeBus (1#1 ++ 0#1 ++ 0x7C#8 ++ d) = .rdDbHold1 ∧
      exec .rdDbHold1 s = .next (s.replied (s.cur.db.hold1)) ∧
    decodeBus (1#1 ++ 0#1 ++ 0x80#8 ++ d) = .rdDbHold2 ∧
      exec .rdDbHold2 s = .next (s.replied (s.cur.db.hold2)) ∧
    decodeBus (1#1 ++ 0#1 ++ 0x84#8 ++ d) = .rdDbHold3 ∧
      exec .rdDbHold3 s = .next (s.replied (s.cur.db.hold3)) ∧
    decodeBus (1#1 ++ 0#1 ++ 0x88#8 ++ d) = .rdDbHold4 ∧
      exec .rdDbHold4 s = .next (s.replied (s.cur.db.hold4)) ∧
    decodeBus (1#1 ++ 0#1 ++ 0x8C#8 ++ d) = .rdMotion ∧
      exec .rdMotion s = .next (s.replied (
      0#23 ++ s.cur.mot.flags ++ BitVec.ofBool s.cur.mot.step ++ BitVec.ofBool s.cur.mot.motEn ++
        BitVec.ofBool s.cur.mot.motDir ++ BitVec.ofBool s.cur.mot.paused ++
        (match s.cur.mot.dir with | .none => 0#2 | .right => 1#2 | .left => 2#2))) ∧
    decodeBus (1#1 ++ 0#1 ++ 0x90#8 ++ d) = .rdStepHalf ∧
      exec .rdStepHalf s = .next (s.replied (s.cur.mot.stepHalf)) ∧
    decodeBus (1#1 ++ 0#1 ++ 0x94#8 ++ d) = .rdStepCnt ∧
      exec .rdStepCnt s = .next (s.replied (s.cur.mot.stepCnt)) ∧
    decodeBus (1#1 ++ 0#1 ++ 0x98#8 ++ d) = .rdFlagRx ∧
      exec .rdFlagRx s = .next (s.replied (
      0#26 ++ (match s.cur.rx.lastDir with | .unknown => 0#2 | .right => 1#2 | .left => 2#2 | .paused => 3#2) ++ 0#1 ++
        s.cur.rx.flagInS))

/-- The plain stores to IRQ_EN, the zero-cross unit, the latches and STEP_HALF write exactly that register
(40_bus_ops.md section 2, R144, R145, R146, R147, R148, R158, R159, R161). -/
def Obligations.PlainStoresOutsideThePidUnit : Prop :=
  ∀ (s : State) (d : Word),
    decodeBus (1#1 ++ 1#1 ++ 0x0C#8 ++ d) = .wrIrqEn d ∧
      exec (.wrIrqEn d) s = .next (if s.inp.rst then s.replied 0
        else { s.replied 0 with nxt := { s.nxt with sys := { s.nxt.sys with irqEn := d.extractLsb' 0 13 } } }) ∧
    decodeBus (1#1 ++ 1#1 ++ 0x1C#8 ++ d) = .wrFireDelay d ∧
      exec (.wrFireDelay d) s = .next (if s.inp.rst then s.replied 0
        else { s.replied 0 with nxt := { s.nxt with zc := { s.nxt.zc with fireDelay := d } } }) ∧
    decodeBus (1#1 ++ 1#1 ++ 0x24#8 ++ d) = .wrGuard d ∧
      exec (.wrGuard d) s = .next (if s.inp.rst then s.replied 0
        else { s.replied 0 with nxt := { s.nxt with zc := { s.nxt.zc with guard := d } } }) ∧
    decodeBus (1#1 ++ 1#1 ++ 0x28#8 ++ d) = .wrZcTimeout d ∧
      exec (.wrZcTimeout d) s = .next (if s.inp.rst then s.replied 0
        else { s.replied 0 with nxt := { s.nxt with zc := { s.nxt.zc with zcTimeout := d } } }) ∧
    decodeBus (1#1 ++ 1#1 ++ 0x70#8 ++ d) = .wrDbWindow d ∧
      exec (.wrDbWindow d) s = .next (if s.inp.rst then s.replied 0
        else { s.replied 0 with nxt := { s.nxt with db := { s.nxt.db with window := d } } }) ∧
    decodeBus (1#1 ++ 1#1 ++ 0x74#8 ++ d) = .wrBtnPol d ∧
      exec (.wrBtnPol d) s = .next (if s.inp.rst then s.replied 0
        else { s.replied 0 with nxt := { s.nxt with db := { s.nxt.db with pol := d.extractLsb' 0 5 } } }) ∧
    decodeBus (1#1 ++ 1#1 ++ 0x90#8 ++ d) = .wrStepHalf d ∧
      exec (.wrStepHalf d) s = .next (if s.inp.rst then s.replied 0
        else { s.replied 0 with nxt := { s.nxt with mot := { s.nxt.mot with stepHalf := d } } })

/-- The plain stores to the PID unit and the setpoint write exactly that register (40_bus_ops.md section 2, R145,
R149, R150, R151, R152, R153, R154, R155, R156, R157). -/
def Obligations.PlainStoresOfThePidUnit : Prop :=
  ∀ (s : State) (d : Word),
    decodeBus (1#1 ++ 1#1 ++ 0x30#8 ++ d) = .wrTemp d ∧
      exec (.wrTemp d) s = .next (if s.inp.rst then s.replied 0
        else { s.replied 0 with nxt := { s.nxt with pid := { s.nxt.pid with temp := d } } }) ∧
    decodeBus (1#1 ++ 1#1 ++ 0x34#8 ++ d) = .wrSetpoint d ∧
      exec (.wrSetpoint d) s = .next (if s.inp.rst then s.replied 0
        else { s.replied 0 with nxt := { s.nxt with pid := { s.nxt.pid with setpoint := d } } }) ∧
    decodeBus (1#1 ++ 1#1 ++ 0x38#8 ++ d) = .wrSpStep d ∧
      exec (.wrSpStep d) s = .next (if s.inp.rst then s.replied 0
        else { s.replied 0 with nxt := { s.nxt with pid := { s.nxt.pid with spStep := d } } }) ∧
    decodeBus (1#1 ++ 1#1 ++ 0x3C#8 ++ d) = .wrSpMin d ∧
      exec (.wrSpMin d) s = .next (if s.inp.rst then s.replied 0
        else { s.replied 0 with nxt := { s.nxt with pid := { s.nxt.pid with spMin := d } } }) ∧
    decodeBus (1#1 ++ 1#1 ++ 0x40#8 ++ d) = .wrSpMax d ∧
      exec (.wrSpMax d) s = .next (if s.inp.rst then s.replied 0
        else { s.replied 0 with nxt := { s.nxt with pid := { s.nxt.pid with spMax := d } } }) ∧
    decodeBus (1#1 ++ 1#1 ++ 0x44#8 ++ d) = .wrQ0 d ∧
      exec (.wrQ0 d) s = .next (if s.inp.rst then s.replied 0
        else { s.replied 0 with nxt := { s.nxt with pid := { s.nxt.pid with q0 := d } } }) ∧
    decodeBus (1#1 ++ 1#1 ++ 0x48#8 ++ d) = .wrQ1 d ∧
      exec (.wrQ1 d) s = .next (if s.inp.rst then s.replied 0
        else { s.replied 0 with nxt := { s.nxt with pid := { s.nxt.pid with q1 := d } } }) ∧
    decodeBus (1#1 ++ 1#1 ++ 0x4C#8 ++ d) = .wrQ2 d ∧
      exec (.wrQ2 d) s = .next (if s.inp.rst then s.replied 0
        else { s.replied 0 with nxt := { s.nxt with pid := { s.nxt.pid with q2 := d } } }) ∧
    decodeBus (1#1 ++ 1#1 ++ 0x60#8 ++ d) = .wrTs d ∧
      exec (.wrTs d) s = .next (if s.inp.rst then s.replied 0
        else { s.replied 0 with nxt := { s.nxt with pid := { s.nxt.pid with ts := d } } })

/-- WR.CTRL sets HEAT_EN and kills with D[0] = 0; WR.EVENT clears the bits written as 1 (40_bus_ops.md section 2,
R141, R143, R99). -/
def Obligations.ControlAndEventWrites : Prop :=
  ∀ (s : State) (d : Word),
    decodeBus (1#1 ++ 1#1 ++ 0x00#8 ++ d) = .wrCtrl d ∧ decodeBus (1#1 ++ 1#1 ++ 0x08#8 ++ d) = .wrEvent d ∧
    exec (.wrCtrl d) s = .next (if s.inp.rst then s.replied 0
      else { s.replied 0 with
        nxt := { s.nxt with
          zc := if d.getLsbD 0 then { s.nxt.zc with heatEn := true }
            else { s.nxt.zc with heatEn := false, triac := false, dlyCnt := 0, haveEdge := false, zcSilence := 0 } } }) ∧
    exec (.wrEvent d) s = .next (if s.inp.rst then s.replied 0
      else { s.replied 0 with
        nxt := { s.nxt with sys := { s.nxt.sys with event := s.cur.sys.event &&& ~~~(d.extractLsb' 0 13) } } })

/-- Each of the 20 writes to a read-only register raises BusError(WRITE_RO) and changes no state (R162). -/
def Obligations.ReadOnlyWritesRaiseTheBusError : Prop :=
  ∀ (s : State) (d : Word),
    decodeBus (1#1 ++ 1#1 ++ 0x04#8 ++ d) = .wrRoStatus d ∧
      exec (.wrRoStatus d) s = .next (s.rejected .writeRo) ∧
    decodeBus (1#1 ++ 1#1 ++ 0x10#8 ++ d) = .wrRoNow d ∧
      exec (.wrRoNow d) s = .next (s.rejected .writeRo) ∧
    decodeBus (1#1 ++ 1#1 ++ 0x14#8 ++ d) = .wrRoLastCross d ∧
      exec (.wrRoLastCross d) s = .next (s.rejected .writeRo) ∧
    decodeBus (1#1 ++ 1#1 ++ 0x18#8 ++ d) = .wrRoPeriod d ∧
      exec (.wrRoPeriod d) s = .next (s.rejected .writeRo) ∧
    decodeBus (1#1 ++ 1#1 ++ 0x20#8 ++ d) = .wrRoDlyCnt d ∧
      exec (.wrRoDlyCnt d) s = .next (s.rejected .writeRo) ∧
    decodeBus (1#1 ++ 1#1 ++ 0x2C#8 ++ d) = .wrRoZcSilence d ∧
      exec (.wrRoZcSilence d) s = .next (s.rejected .writeRo) ∧
    decodeBus (1#1 ++ 1#1 ++ 0x50#8 ++ d) = .wrRoE1 d ∧
      exec (.wrRoE1 d) s = .next (s.rejected .writeRo) ∧
    decodeBus (1#1 ++ 1#1 ++ 0x54#8 ++ d) = .wrRoE2 d ∧
      exec (.wrRoE2 d) s = .next (s.rejected .writeRo) ∧
    decodeBus (1#1 ++ 1#1 ++ 0x58#8 ++ d) = .wrRoPidOut d ∧
      exec (.wrRoPidOut d) s = .next (s.rejected .writeRo) ∧
    decodeBus (1#1 ++ 1#1 ++ 0x5C#8 ++ d) = .wrRoPidRaw d ∧
      exec (.wrRoPidRaw d) s = .next (s.rejected .writeRo) ∧
    decodeBus (1#1 ++ 1#1 ++ 0x64#8 ++ d) = .wrRoTsCnt d ∧
      exec (.wrRoTsCnt d) s = .next (s.rejected .writeRo) ∧
    decodeBus (1#1 ++ 1#1 ++ 0x68#8 ++ d) = .wrRoSampleCount d ∧
      exec (.wrRoSampleCount d) s = .next (s.rejected .writeRo) ∧
    decodeBus (1#1 ++ 1#1 ++ 0x78#8 ++ d) = .wrRoDbHold0 d ∧
      exec (.wrRoDbHold0 d) s = .next (s.rejected .writeRo) ∧
    decodeBus (1#1 ++ 1#1 ++ 0x7C#8 ++ d) = .wrRoDbHold1 d ∧
      exec (.wrRoDbHold1 d) s = .next (s.rejected .writeRo) ∧
    decodeBus (1#1 ++ 1#1 ++ 0x80#8 ++ d) = .wrRoDbHold2 d ∧
      exec (.wrRoDbHold2 d) s = .next (s.rejected .writeRo) ∧
    decodeBus (1#1 ++ 1#1 ++ 0x84#8 ++ d) = .wrRoDbHold3 d ∧
      exec (.wrRoDbHold3 d) s = .next (s.rejected .writeRo) ∧
    decodeBus (1#1 ++ 1#1 ++ 0x88#8 ++ d) = .wrRoDbHold4 d ∧
      exec (.wrRoDbHold4 d) s = .next (s.rejected .writeRo) ∧
    decodeBus (1#1 ++ 1#1 ++ 0x8C#8 ++ d) = .wrRoMotion d ∧
      exec (.wrRoMotion d) s = .next (s.rejected .writeRo) ∧
    decodeBus (1#1 ++ 1#1 ++ 0x94#8 ++ d) = .wrRoStepCnt d ∧
      exec (.wrRoStepCnt d) s = .next (s.rejected .writeRo) ∧
    decodeBus (1#1 ++ 1#1 ++ 0x98#8 ++ d) = .wrRoFlagRx d ∧
      exec (.wrRoFlagRx d) s = .next (s.rejected .writeRo)

/-- Unmapped and misaligned transactions raise BusError and change no state, misalignment tested first (R163, R164).
-/
def Obligations.AddressErrorsRaiseTheBusError : Prop :=
  ∀ (s : State) (w : Bool) (a : BitVec 8) (d : Word),
    (a.extractLsb' 0 2 = 0#2 → 0x9C#8 ≤ a →
      decodeBus (1#1 ++ BitVec.ofBool w ++ a ++ d) = .busUnmapped w (a.extractLsb' 2 6) d ∧
      exec (.busUnmapped w (a.extractLsb' 2 6) d) s = .next (s.rejected .unmapped)) ∧
    (a.extractLsb' 0 2 ≠ 0#2 →
      decodeBus (1#1 ++ BitVec.ofBool w ++ a ++ d) = .busMisaligned w (a.extractLsb' 2 6) (a.extractLsb' 0 2) d ∧
      exec (.busMisaligned w (a.extractLsb' 2 6) (a.extractLsb' 0 2) d) s = .next (s.rejected .misaligned))

/-- RST puts the reset state with the pins captured in place of what the tick built; NOW.TICK adds one to NOW
(10_state.md section 2.1, R31, R370). -/
def Obligations.ResetAndTimeOperations : Prop :=
  ∀ s : State,
    exec .rst s = .next (if s.inp.rst then
      { s with nxt := resetImage s.inp.zcIn s.inp.btn s.inp.flagIn, evSet := 0 } else s) ∧
    exec .nowTick s = .next (if s.inp.rst then s
      else { s with nxt := { s.nxt with sys := { s.nxt.sys with now := BitVec.ofNat 32 (s.cur.sys.now.toNat + 1) } } })

/-- ZC.RISE at a crossing measures the period and takes the timed or the clamp branch; elsewhere it does nothing
(41_zero_cross.md section 2, R231, R232, R233, R234, R235, R236). -/
def Obligations.CrossingOperation : Prop :=
  ∀ s : State,
    (¬Crosses s.cur s.inp → exec .zcRise s = .next s) ∧
    (Crosses s.cur s.inp →
      let p := crossedPeriod s.cur
      let valid := if s.cur.zc.haveEdge then true else s.nxt.zc.periodValid
      let period := if s.cur.zc.haveEdge then p else s.nxt.zc.period
      let events : Events := if s.cur.zc.dlyCnt = 0 then 0x0001 else 0x0009
      (s.cur.zc.fireDelay.toNat < p.toNat →
        exec .zcRise s = .next { s with
          evSet := s.evSet ||| events
          nxt := { s.nxt with
            zc := { s.nxt.zc with
              zcSilence := 0, period := period, periodValid := valid, lastCross := s.cur.sys.now, haveEdge := true,
              dlyCnt := s.cur.zc.fireDelay, triac := decide (s.cur.zc.fireDelay ≠ 0) } } }) ∧
      (¬s.cur.zc.fireDelay.toNat < p.toNat →
        exec .zcRise s = .next { s with
          evSet := s.evSet ||| events ||| 0x0004
          nxt := { s.nxt with
            zc := { s.nxt.zc with
              zcSilence := 0, period := period, periodValid := valid, lastCross := s.cur.sys.now, haveEdge := true,
              dlyCnt := 0, triac := true, fireDelay := p } } }))

/-- ZC.OFF idles the unit; DLY.COUNT, DLY.EXPIRE, WDG.COUNT and WDG.FIRE run the timer and the watchdog
(41_zero_cross.md sections 1 and 3, R230, R237, R238). -/
def Obligations.UnitTimerOperations : Prop :=
  ∀ s : State,
    exec .zcOff s = .next (if s.inp.rst = false ∧ ¬UnitOn s.cur s.inp then
      { s with nxt := { s.nxt with
        zc := { s.nxt.zc with triac := false, dlyCnt := 0, haveEdge := false, zcSilence := 0 } } } else s) ∧
    exec .dlyCount s = .next (if Quiet s.cur s.inp ∧ 2 ≤ s.cur.zc.dlyCnt.toNat then
      { s with nxt := { s.nxt with
        zc := { s.nxt.zc with dlyCnt := BitVec.ofNat 32 (s.cur.zc.dlyCnt.toNat - 1) } } } else s) ∧
    exec .dlyExpire s = .next (if Quiet s.cur s.inp ∧ s.cur.zc.dlyCnt.toNat = 1 then
      { s with
        evSet := s.evSet ||| 0x0002
        nxt := { s.nxt with zc := { s.nxt.zc with triac := false, dlyCnt := 0 } } } else s) ∧
    exec .wdgCount s = .next (if Quiet s.cur s.inp then
      { s with nxt := { s.nxt with
        zc := { s.nxt.zc with zcSilence := BitVec.ofNat 32 (min (s.cur.zc.zcSilence.toNat + 1) (2 ^ 32 - 1)) } } } else s) ∧
    exec .wdgFire s = .next (if Quiet s.cur s.inp ∧ SilenceTooLong s.cur then
      { s with
        evSet := s.evSet ||| 0x0010
        nxt := { s.nxt with zc := { s.nxt.zc with triac := false, dlyCnt := 0, haveEdge := false } } } else s)

/-- TS.COUNT counts the sample divider or clears it; TS.TICK clears it (42_pid.md section 1, R116, R260). -/
def Obligations.SampleDividerOperations : Prop :=
  ∀ s : State,
    exec .tsCount s = .next (if s.inp.rst then s
      else { s with nxt := { s.nxt with
        pid := { s.nxt.pid with
          tsCnt := if s.cur.pid.ts = 0 ∨ SampleTick s.cur then 0 else BitVec.ofNat 32 (s.cur.pid.tsCnt.toNat + 1) } } }) ∧
    exec .tsTick s = .next (if s.inp.rst = false ∧ SampleTick s.cur then
      { s with nxt := { s.nxt with pid := { s.nxt.pid with tsCnt := 0 } } } else s)

/-- PID.SAMPLE, and WR.PID_CMD with D[0] = 1, compute one sample from S_t (42_pid.md section 2, R160, R261, R262,
R263, R264, R265, R266). -/
def Obligations.SampleOperations : Prop :=
  ∀ (s : State) (d : Word),
    decodeBus (1#1 ++ 1#1 ++ 0x6C#8 ++ d) = .wrPidCmd d ∧
    (¬Samples s.cur s.inp → exec .pidSample s = .next s) ∧
    ((s.inp.rst = true ∨ d.getLsbD 0 = false) → exec (.wrPidCmd d) s = .next (s.replied 0)) ∧
    ∃ e0 raw out fd : Word,
      e0.toInt = errorOf s.cur.pid ∧
      raw.toInt = max (-2 ^ 31) (min (2 ^ 31 - 1) (rawOf s.cur.pid)) ∧
      (out.toNat : Int) = powerOf s.cur.pid ∧
      (fd.toNat : Int) = delayOf s.cur ∧
      let sampled (s : State) : State :=
        { s with
          evSet := s.evSet ||| BitVec.ofNat 13 (0x20 + (if rawOf s.cur.pid < 0 then 0x40 else 0) +
            (if 6553600 < rawOf s.cur.pid then 0x80 else 0))
          nxt := { s.nxt with
            pid := { s.nxt.pid with
              pidRaw := raw, pidOut := out, e1 := e0, e2 := s.cur.pid.e1,
              sampleCount := BitVec.ofNat 32 (s.cur.pid.sampleCount.toNat + 1) }
            zc := { s.nxt.zc with fireDelay := fd } } }
      (Samples s.cur s.inp → exec .pidSample s = .next (sampled s)) ∧
      (s.inp.rst = false → d.getLsbD 0 = true → exec (.wrPidCmd d) s = .next (sampled (s.replied 0)))

/-- BTN0.EDGE, BTN1.EDGE and BTN2.EDGE accept an edge and run RIGHT, LEFT and PAUSE on the working copy
(43_debounce.md, 44_motion_stepper.md section 1, R291, R293, R311, R312, R313). -/
def Obligations.MotionButtonOperations : Prop :=
  ∀ (s : State) (p : Bool),
    exec (.btn0Edge p) s = .next (if s.inp.rst = false ∧ EdgeTo s.cur 0 p ∧ s.cur.db.hold0 = 0 then
      { s with
        evSet := s.evSet ||| 0x0100
        nxt := { s.nxt with
          db := { s.nxt.db with hold0 := BitVec.ofNat 32 (s.cur.db.window.toNat - 1) }
          mot := if s.nxt.mot.paused = false ∧ s.nxt.mot.dir ≠ .right then
              { s.nxt.mot with motDir := true, motEn := true, dir := .right, flags := 0b001 } else s.nxt.mot } } else s) ∧
    exec (.btn1Edge p) s = .next (if s.inp.rst = false ∧ EdgeTo s.cur 1 p ∧ s.cur.db.hold1 = 0 then
      { s with
        evSet := s.evSet ||| 0x0200
        nxt := { s.nxt with
          db := { s.nxt.db with hold1 := BitVec.ofNat 32 (s.cur.db.window.toNat - 1) }
          mot := if s.nxt.mot.paused = false ∧ s.nxt.mot.dir ≠ .left then
              { s.nxt.mot with motDir := false, motEn := true, dir := .left, flags := 0b010 } else s.nxt.mot } } else s) ∧
    exec (.btn2Edge p) s = .next (if s.inp.rst = false ∧ EdgeTo s.cur 2 p ∧ s.cur.db.hold2 = 0 then
      { s with
        evSet := s.evSet ||| 0x0400
        nxt := { s.nxt with
          db := { s.nxt.db with hold2 := BitVec.ofNat 32 (s.cur.db.window.toNat - 1) }
          mot := if s.nxt.mot.paused = false then
              { s.nxt.mot with paused := true, dir := .none, flags := 0b100 } else { s.nxt.mot with paused := false } } } else s)

/-- BTN3.EDGE and BTN4.EDGE accept an edge and move the working setpoint by SP_STEP inside the bounds (43_debounce.md,
R291, R293, R297). -/
def Obligations.SetpointButtonOperations : Prop :=
  ∀ (s : State) (p : Bool),
    ∃ sp : Word,
      sp.toInt = max s.cur.pid.spMin.toInt
        (min s.cur.pid.spMax.toInt (s.nxt.pid.setpoint.toInt + s.cur.pid.spStep.toInt)) ∧
      exec (.btn3Edge p) s = .next (if s.inp.rst = false ∧ EdgeTo s.cur 3 p ∧ s.cur.db.hold3 = 0 then
        { s with
          evSet := s.evSet ||| 0x0800
          nxt := { s.nxt with
            db := { s.nxt.db with hold3 := BitVec.ofNat 32 (s.cur.db.window.toNat - 1) }
            pid := { s.nxt.pid with setpoint := sp } } } else s) ∧
    ∃ sp : Word,
      sp.toInt = max s.cur.pid.spMin.toInt
        (min s.cur.pid.spMax.toInt (s.nxt.pid.setpoint.toInt - s.cur.pid.spStep.toInt)) ∧
      exec (.btn4Edge p) s = .next (if s.inp.rst = false ∧ EdgeTo s.cur 4 p ∧ s.cur.db.hold4 = 0 then
        { s with
          evSet := s.evSet ||| 0x1000
          nxt := { s.nxt with
            db := { s.nxt.db with hold4 := BitVec.ofNat 32 (s.cur.db.window.toNat - 1) }
            pid := { s.nxt.pid with setpoint := sp } } } else s)

/-- HOLD0.DEC to HOLD4.DEC count their hold-off down to 0 in a tick without an accepted event on the button
(43_debounce.md, R116, R295). -/
def Obligations.HoldOffOperations : Prop :=
  ∀ s : State,
    exec .hold0Dec s = .next (if s.inp.rst = false ∧ ¬Accepts s.cur s.inp .right then
      { s with nxt := { s.nxt with db := { s.nxt.db with hold0 := BitVec.ofNat 32 (s.cur.db.hold0.toNat - 1) } } } else s) ∧
    exec .hold1Dec s = .next (if s.inp.rst = false ∧ ¬Accepts s.cur s.inp .left then
      { s with nxt := { s.nxt with db := { s.nxt.db with hold1 := BitVec.ofNat 32 (s.cur.db.hold1.toNat - 1) } } } else s) ∧
    exec .hold2Dec s = .next (if s.inp.rst = false ∧ ¬Accepts s.cur s.inp .pause then
      { s with nxt := { s.nxt with db := { s.nxt.db with hold2 := BitVec.ofNat 32 (s.cur.db.hold2.toNat - 1) } } } else s) ∧
    exec .hold3Dec s = .next (if s.inp.rst = false ∧ ¬Accepts s.cur s.inp .spUp then
      { s with nxt := { s.nxt with db := { s.nxt.db with hold3 := BitVec.ofNat 32 (s.cur.db.hold3.toNat - 1) } } } else s) ∧
    exec .hold4Dec s = .next (if s.inp.rst = false ∧ ¬Accepts s.cur s.inp .spDown then
      { s with nxt := { s.nxt with db := { s.nxt.db with hold4 := BitVec.ofNat 32 (s.cur.db.hold4.toNat - 1) } } } else s)

/-- STEP.COUNT, STEP.FALL, STEP.RISE and STEP.IDLE: each in its condition, and nothing outside it
(44_motion_stepper.md section 2, R116, R316). -/
def Obligations.PulseOperations : Prop :=
  ∀ s : State,
    let m := s.cur.mot
    let load (step : Bool) (n : Nat) : State :=
      { s with nxt := { s.nxt with mot := { s.nxt.mot with step := step, stepCnt := BitVec.ofNat 32 n } } }
    exec .stepCount s = .next (if s.inp.rst = false ∧ 0 < m.stepCnt.toNat then
      { s with nxt := { s.nxt with mot := { s.nxt.mot with stepCnt := BitVec.ofNat 32 (m.stepCnt.toNat - 1) } } }
        else s) ∧
    exec .stepFall s = .next (if s.inp.rst = false ∧ m.stepCnt = 0 ∧ m.step = true then
      load false (max m.stepHalf.toNat 1 - 1) else s) ∧
    exec .stepRise s = .next (if s.inp.rst = false ∧ m.stepCnt = 0 ∧ m.step = false ∧
        (m.dir ≠ .none ∧ m.paused = false) ∧ m.stepHalf ≠ 0 then
      load true (m.stepHalf.toNat - 1) else s) ∧
    exec .stepIdle s = .next s

/-- FLAGIN.SAMPLE stores the lines and keeps the last valid direction (44_motion_stepper.md section 3, R119, R318). -/
def Obligations.FlagReceiverOperation : Prop :=
  ∀ (s : State) (f : BitVec 3),
    exec (.flaginSample f) s = .next (if s.inp.rst then s
      else { s with nxt := { s.nxt with
        rx := { flagInS := f, lastDir := if f = 0b001 then .right else if f = 0b010 then .left
                  else if f = 0b100 then .paused else s.cur.rx.lastDir } } })

/-- NOW advances by one modulo 2^32 in every tick without reset, whatever else happens (R31). -/
def Obligations.NowCountsTicks : Prop :=
  (∀ s : State, s.nextInput.rst = false →
    ∃ t, step s = .next t ∧ t.cur.sys.now.toNat = (s.cur.sys.now.toNat + 1) % 2 ^ 32) ∧
  ∀ (k : Nat) (s : State), (∀ j < k, ∀ u, After j s u → u.nextInput.rst = false) →
    ∃ t, After k s t ∧ t.cur.sys.now.toNat = (s.cur.sys.now.toNat + k) % 2 ^ 32

/-- A tick with the zero-cross unit off (disabled, out of sync or killed in this very tick) leaves it idle (R230). -/
def Obligations.UnitOffTick : Prop :=
  ∀ s : State, s.nextInput.rst = false → ¬UnitOn s.cur s.nextInput →
    ∃ t, step s = .next t ∧
      t.cur.zc.triac = false ∧ t.cur.zc.dlyCnt = 0 ∧ t.cur.zc.haveEdge = false ∧ t.cur.zc.zcSilence = 0 ∧
      t.cur.zc.zcPrev = s.nextInput.zcIn ∧ t.cur.zc.lastCross = s.cur.zc.lastCross ∧
      t.cur.zc.period = s.cur.zc.period ∧ t.cur.zc.periodValid = s.cur.zc.periodValid ∧
      (¬Samples s.cur s.nextInput → ¬HostWrites s.nextInput 0x1C → t.cur.zc.fireDelay = s.cur.zc.fireDelay) ∧
      ∀ k < 5, t.cur.sys.event.getLsbD k = eventKept s.cur s.nextInput k

/-- A tick with a crossing measures the period and times or clamps the gate (R232, R233, R234, R235, R236). -/
def Obligations.CrossingTick : Prop :=
  ∀ s : State, Crosses s.cur s.nextInput →
    ∃ t, step s = .next t ∧
      let p := crossedPeriod s.cur
      t.cur.zc.lastCross = s.cur.sys.now ∧ t.cur.zc.haveEdge = true ∧ t.cur.zc.zcSilence = 0 ∧
      t.cur.zc.zcPrev = true ∧ t.cur.zc.period = p ∧
      t.cur.zc.periodValid = (s.cur.zc.haveEdge || s.cur.zc.periodValid) ∧
      (s.cur.zc.fireDelay.toNat < p.toNat →
        t.cur.zc.dlyCnt = s.cur.zc.fireDelay ∧ (t.cur.zc.triac = true ↔ s.cur.zc.fireDelay ≠ 0)) ∧
      (p.toNat ≤ s.cur.zc.fireDelay.toNat →
        t.cur.zc.dlyCnt = 0 ∧ t.cur.zc.triac = true ∧
        (¬Samples s.cur s.nextInput → ¬HostWrites s.nextInput 0x1C → t.cur.zc.fireDelay = p)) ∧
      t.cur.sys.event.getLsbD 0 = true ∧
      t.cur.sys.event.getLsbD 1 = eventKept s.cur s.nextInput 1 ∧
      t.cur.sys.event.getLsbD 2 = (decide (p.toNat ≤ s.cur.zc.fireDelay.toNat) || eventKept s.cur s.nextInput 2) ∧
      t.cur.sys.event.getLsbD 3 = (decide (s.cur.zc.dlyCnt ≠ 0) || eventKept s.cur s.nextInput 3) ∧
      t.cur.sys.event.getLsbD 4 = eventKept s.cur s.nextInput 4

/-- A tick with the unit on and no crossing counts the timer and the silence, and the watchdog overrides the timer
(R237, R238). -/
def Obligations.QuietTick : Prop :=
  ∀ s : State, Quiet s.cur s.nextInput →
    ∃ t, step s = .next t ∧
      t.cur.zc.zcSilence.toNat = min (s.cur.zc.zcSilence.toNat + 1) (2 ^ 32 - 1) ∧
      (SilenceTooLong s.cur →
        t.cur.zc.triac = false ∧ t.cur.zc.dlyCnt = 0 ∧ t.cur.zc.haveEdge = false ∧ t.cur.sys.event.getLsbD 4 = true) ∧
      (¬SilenceTooLong s.cur →
        t.cur.zc.haveEdge = s.cur.zc.haveEdge ∧ t.cur.zc.dlyCnt.toNat = s.cur.zc.dlyCnt.toNat - 1 ∧
        t.cur.zc.triac = (s.cur.zc.triac && decide (s.cur.zc.dlyCnt ≠ 1)) ∧
        t.cur.sys.event.getLsbD 4 = eventKept s.cur s.nextInput 4) ∧
      t.cur.zc.zcPrev = s.nextInput.zcIn ∧ t.cur.zc.lastCross = s.cur.zc.lastCross ∧
      t.cur.zc.period = s.cur.zc.period ∧ t.cur.zc.periodValid = s.cur.zc.periodValid ∧
      t.cur.sys.event.getLsbD 1 = (decide (s.cur.zc.dlyCnt = 1) || eventKept s.cur s.nextInput 1) ∧
      ∀ k ∈ [0, 2, 3], t.cur.sys.event.getLsbD k = eventKept s.cur s.nextInput k

/-- FIRE_DELAY takes the host's value before the sample's, and the sample's before the clamp's (20_memory.md section
3, R98, R103, R266). -/
def Obligations.FireDelayHasThreeWriters : Prop :=
  ∀ s : State, s.nextInput.rst = false →
    ∃ t, step s = .next t ∧
      (t.cur.zc.fireDelay.toNat : Int) =
        if HostWrites s.nextInput 0x1C then (s.nextInput.wdata.toNat : Int)
        else if Samples s.cur s.nextInput then delayOf s.cur
        else if Crosses s.cur s.nextInput ∧ ¬s.cur.zc.fireDelay.toNat < (crossedPeriod s.cur).toNat then
          ((crossedPeriod s.cur).toNat : Int)
        else s.cur.zc.fireDelay.toNat

/-- EVENT becomes what the host left of it joined with the events of the tick: set beats clear (R99). -/
def Obligations.EventUpdate : Prop :=
  ∀ s : State, s.nextInput.rst = false →
    ∃ t, step s = .next t ∧
      let r := s.cur
      let i := s.nextInput
      let happens : Nat → Prop
        | 0 => Crosses r i
        | 1 => Quiet r i ∧ r.zc.dlyCnt = 1
        | 2 => Crosses r i ∧ ¬r.zc.fireDelay.toNat < (crossedPeriod r).toNat
        | 3 => Crosses r i ∧ r.zc.dlyCnt ≠ 0
        | 4 => Quiet r i ∧ SilenceTooLong r
        | 5 => Samples r i
        | 6 => Samples r i ∧ rawOf r.pid < 0
        | 7 => Samples r i ∧ 6553600 < rawOf r.pid
        | 8 => Accepts r i .right
        | 9 => Accepts r i .left
        | 10 => Accepts r i .pause
        | 11 => Accepts r i .spUp
        | 12 => Accepts r i .spDown
        | _ => False
      ∀ k < 13, t.cur.sys.event.getLsbD k = true ↔ happens k ∨ eventKept r i k = true

/-- The PID unit computes one sample in a tick exactly when one is due, and its divider counts (R260, R261, R262,
R263, R264, R267). -/
def Obligations.SampleTickOfThePidUnit : Prop :=
  ∀ s : State, s.nextInput.rst = false →
    ∃ t, step s = .next t ∧
      t.cur.pid.tsCnt.toNat = (if s.cur.pid.ts = 0 ∨ SampleTick s.cur then 0 else s.cur.pid.tsCnt.toNat + 1) ∧
      (Samples s.cur s.nextInput →
        t.cur.pid.e1.toInt = errorOf s.cur.pid ∧ t.cur.pid.e2 = s.cur.pid.e1 ∧
        t.cur.pid.pidRaw.toInt = max (-2 ^ 31) (min (2 ^ 31 - 1) (rawOf s.cur.pid)) ∧
        (t.cur.pid.pidOut.toNat : Int) = powerOf s.cur.pid ∧
        t.cur.pid.sampleCount.toNat = (s.cur.pid.sampleCount.toNat + 1) % 2 ^ 32 ∧
        t.cur.sys.event.getLsbD 5 = true ∧
        t.cur.sys.event.getLsbD 6 = (decide (rawOf s.cur.pid < 0) || eventKept s.cur s.nextInput 6) ∧
        t.cur.sys.event.getLsbD 7 = (decide (6553600 < rawOf s.cur.pid) || eventKept s.cur s.nextInput 7)) ∧
      (¬Samples s.cur s.nextInput →
        t.cur.pid.e1 = s.cur.pid.e1 ∧ t.cur.pid.e2 = s.cur.pid.e2 ∧ t.cur.pid.pidRaw = s.cur.pid.pidRaw ∧
        t.cur.pid.pidOut = s.cur.pid.pidOut ∧ t.cur.pid.sampleCount = s.cur.pid.sampleCount)

/-- A sample's power stays in 0..100.0, its delay in 0..PERIOD, and it is exact inside the range up to 2^-16 (R270).
-/
def Obligations.WholeSampleProperty : Prop :=
  ∀ s : State, Samples s.cur s.nextInput →
    ∃ t, step s = .next t ∧
      t.cur.pid.pidOut.toNat ≤ 6553600 ∧
      (∃ fd : Nat, fd ≤ s.cur.zc.period.toNat ∧ (fd : Int) = delayOf s.cur ∧
        (¬HostWrites s.nextInput 0x1C → t.cur.zc.fireDelay.toNat = fd)) ∧
      (0 ≤ rawOf s.cur.pid → rawOf s.cur.pid ≤ 6553600 →
        (t.cur.pid.pidOut.toNat : Int) = rawOf s.cur.pid ∧
        0 ≤ accumulated s.cur.pid - t.cur.pid.pidOut.toNat * 65536 ∧
        accumulated s.cur.pid - t.cur.pid.pidOut.toNat * 65536 < 65536) ∧
      max 0 (min 6553600 (t.cur.pid.pidOut.toNat : Int)) = t.cur.pid.pidOut.toNat

/-- Each latch accepts or discards its own edge and counts its own hold-off (43_debounce.md, R290, R291, R293, R295).
-/
def Obligations.LatchTick : Prop :=
  ∀ s : State, s.nextInput.rst = false →
    ∃ t, step s = .next t ∧ t.cur.db.prev = s.nextInput.btn ∧
      ∀ b : Btn,
        (Accepts s.cur s.nextInput b →
          (holdOf b t.cur.db).toNat = (if 1 ≤ s.cur.db.window.toNat then s.cur.db.window.toNat - 1 else 0) ∧
          t.cur.sys.event.getLsbD (8 + btnIndex b) = true) ∧
        (¬Accepts s.cur s.nextInput b →
          (holdOf b t.cur.db).toNat = (if 0 < (holdOf b s.cur.db).toNat then (holdOf b s.cur.db).toNat - 1 else 0) ∧
          t.cur.sys.event.getLsbD (8 + btnIndex b) = eventKept s.cur s.nextInput (8 + btnIndex b))

/-- SETPOINT follows the accepted setpoint buttons, up then down, each bounded, unless the host writes it (R297). -/
def Obligations.SetpointTick : Prop :=
  ∀ s : State, s.nextInput.rst = false →
    ∃ t, step s = .next t ∧
      let p := s.cur.pid
      let bound (x : Int) : Int := max p.spMin.toInt (min p.spMax.toInt x)
      let up (x : Int) : Int := if Accepts s.cur s.nextInput .spUp then bound (x + p.spStep.toInt) else x
      let down (x : Int) : Int := if Accepts s.cur s.nextInput .spDown then bound (x - p.spStep.toInt) else x
      t.cur.pid.setpoint.toInt =
        (if HostWrites s.nextInput 0x34 then s.nextInput.wdata.toInt else down (up p.setpoint.toInt)) ∧
      (Accepts s.cur s.nextInput .spUp → t.cur.sys.event.getLsbD 11 = true) ∧
      (Accepts s.cur s.nextInput .spDown → t.cur.sys.event.getLsbD 12 = true)

/-- The motion state follows the accepted RIGHT, LEFT and PAUSE events, in this order, and nothing else (R311, R312,
R313). -/
def Obligations.MotionTick : Prop :=
  ∀ s : State, s.nextInput.rst = false →
    ∃ t, step s = .next t ∧
      let right (m : MotionRow) : MotionRow :=
        if m.paused = false ∧ m.dir ≠ .right then
          { m with motDir := true, motEn := true, dir := .right, flags := 0b001 } else m
      let left (m : MotionRow) : MotionRow :=
        if m.paused = false ∧ m.dir ≠ .left then
          { m with motDir := false, motEn := true, dir := .left, flags := 0b010 } else m
      let pause (m : MotionRow) : MotionRow :=
        if m.paused = false then { m with paused := true, dir := .none, flags := 0b100 } else { m with paused := false }
      let m0 := motionRow s.cur.mot
      let m1 := if Accepts s.cur s.nextInput .right then right m0 else m0
      let m2 := if Accepts s.cur s.nextInput .left then left m1 else m1
      motionRow t.cur.mot = (if Accepts s.cur s.nextInput .pause then pause m2 else m2) ∧
      (Accepts s.cur s.nextInput .right → t.cur.sys.event.getLsbD 8 = true) ∧
      (Accepts s.cur s.nextInput .left → t.cur.sys.event.getLsbD 9 = true) ∧
      (Accepts s.cur s.nextInput .pause → t.cur.sys.event.getLsbD 10 = true)

/-- The twelve entries of the transition table, and no change from the setpoint buttons (R315). -/
def Obligations.MotionTransitionTable : Prop :=
  ∀ s : State, s.nextInput.rst = false →
    ∃ t, step s = .next t ∧
      let accepts (b : Btn) : Prop := Accepts s.cur s.nextInput b
      let row := motionRow s.cur.mot
      let row' := motionRow t.cur.mot
      let onlyRight : Prop := accepts .right ∧ ¬accepts .left ∧ ¬accepts .pause
      let onlyLeft : Prop := ¬accepts .right ∧ accepts .left ∧ ¬accepts .pause
      let onlyPause : Prop := ¬accepts .right ∧ ¬accepts .left ∧ accepts .pause
      (¬accepts .right ∧ ¬accepts .left ∧ ¬accepts .pause → row' = row) ∧
      (∀ (d e : Bool) (f : BitVec 3), row = ⟨.none, false, d, e, f⟩ →
        (onlyRight → row' = ⟨.right, false, true, true, 0b001⟩) ∧ (onlyLeft → row' = ⟨.left, false, false, true, 0b010⟩) ∧
        (onlyPause → row' = ⟨.none, true, d, e, 0b100⟩)) ∧
      (row = ⟨.right, false, true, true, 0b001⟩ →
        (onlyRight → row' = row) ∧ (onlyLeft → row' = ⟨.left, false, false, true, 0b010⟩) ∧
        (onlyPause → row' = ⟨.none, true, true, true, 0b100⟩)) ∧
      (row = ⟨.left, false, false, true, 0b010⟩ →
        (onlyRight → row' = ⟨.right, false, true, true, 0b001⟩) ∧ (onlyLeft → row' = row) ∧
        (onlyPause → row' = ⟨.none, true, false, true, 0b100⟩)) ∧
      (∀ d e : Bool, row = ⟨.none, true, d, e, 0b100⟩ →
        (onlyRight → row' = row) ∧ (onlyLeft → row' = row) ∧ (onlyPause → row' = ⟨.none, false, d, e, 0b100⟩))

/-- The pulse generator takes exactly one branch per tick, from S_t alone (R316). -/
def Obligations.PulseTick : Prop :=
  ∀ s : State, s.nextInput.rst = false →
    ∃ t, step s = .next t ∧
      let m := s.cur.mot
      (t.cur.mot.step, t.cur.mot.stepCnt.toNat) =
        if 0 < m.stepCnt.toNat then (m.step, m.stepCnt.toNat - 1)
        else if m.step = true then (false, max m.stepHalf.toNat 1 - 1)
        else if (m.dir ≠ .none ∧ m.paused = false) ∧ m.stepHalf ≠ 0 then (true, m.stepHalf.toNat - 1)
        else (false, 0)

/-- The flag receiver samples the lines every tick and keeps the last direction on any code that is not one-hot (R119,
R318). -/
def Obligations.FlagReceiverTick : Prop :=
  ∀ s : State, s.nextInput.rst = false →
    (∃ t, step s = .next t ∧ t.cur.rx.flagInS = s.nextInput.flagIn ∧
      t.cur.rx.lastDir =
        match s.nextInput.flagIn.toNat with
        | 1 => .right
        | 2 => .left
        | 4 => .paused
        | _ => s.cur.rx.lastDir) ∧
    ∀ f : BitVec 3, ∃ t u, step s = .next t ∧ step (s.given { s.nextInput with flagIn := f }) = .next u ∧
      u.cur = { t.cur with rx := u.cur.rx } ∧ u.resp = t.resp

/-- Every register only the host writes holds the host's last value (20_memory.md section 3, R96, R98, R145). -/
def Obligations.HostParametersChangeOnlyByTheHost : Prop :=
  ∀ s : State, s.nextInput.rst = false →
    ∃ t, step s = .next t ∧
      let i := s.nextInput
      let d := i.wdata
      t.cur.zc.heatEn = (if HostWrites i 0x00 then d.getLsbD 0 else s.cur.zc.heatEn) ∧
      t.cur.sys.irqEn = (if HostWrites i 0x0C then d.extractLsb' 0 13 else s.cur.sys.irqEn) ∧
      t.cur.zc.guard = (if HostWrites i 0x24 then d else s.cur.zc.guard) ∧
      t.cur.zc.zcTimeout = (if HostWrites i 0x28 then d else s.cur.zc.zcTimeout) ∧
      t.cur.pid.temp = (if HostWrites i 0x30 then d else s.cur.pid.temp) ∧
      t.cur.pid.spStep = (if HostWrites i 0x38 then d else s.cur.pid.spStep) ∧
      t.cur.pid.spMin = (if HostWrites i 0x3C then d else s.cur.pid.spMin) ∧
      t.cur.pid.spMax = (if HostWrites i 0x40 then d else s.cur.pid.spMax) ∧
      t.cur.pid.q0 = (if HostWrites i 0x44 then d else s.cur.pid.q0) ∧
      t.cur.pid.q1 = (if HostWrites i 0x48 then d else s.cur.pid.q1) ∧
      t.cur.pid.q2 = (if HostWrites i 0x4C then d else s.cur.pid.q2) ∧
      t.cur.pid.ts = (if HostWrites i 0x60 then d else s.cur.pid.ts) ∧
      t.cur.db.window = (if HostWrites i 0x70 then d else s.cur.db.window) ∧
      t.cur.mot.stepHalf = (if HostWrites i 0x90 then d else s.cur.mot.stepHalf) ∧
      t.cur.db.pol = (if HostWrites i 0x74 then d.extractLsb' 0 5 else s.cur.db.pol)

/-- A plain store changes exactly its register in the tick, over every unit, and is seen from the next tick on (R145).
-/
def Obligations.PlainStoreChangesOneRegister : Prop :=
  ∀ (s : State) (i : Inputs) (d : Word), i.rst = false →
    ∃ u, step (s.given i.silent) = .next u ∧
      let r := u.cur
      let gives (a : BitVec 8) (q : Regs) : Prop :=
        ∃ t, step (s.given (i.storing a d)) = .next t ∧ t.cur = q ∧ t.resp = { rdata := 0, err := false, cause := none }
      gives 0x0C#8 { r with sys := { r.sys with irqEn := d.extractLsb' 0 13 } } ∧
      gives 0x1C#8 { r with zc := { r.zc with fireDelay := d } } ∧
      gives 0x24#8 { r with zc := { r.zc with guard := d } } ∧
      gives 0x28#8 { r with zc := { r.zc with zcTimeout := d } } ∧
      gives 0x30#8 { r with pid := { r.pid with temp := d } } ∧
      gives 0x34#8 { r with pid := { r.pid with setpoint := d } } ∧
      gives 0x38#8 { r with pid := { r.pid with spStep := d } } ∧
      gives 0x3C#8 { r with pid := { r.pid with spMin := d } } ∧
      gives 0x40#8 { r with pid := { r.pid with spMax := d } } ∧
      gives 0x44#8 { r with pid := { r.pid with q0 := d } } ∧
      gives 0x48#8 { r with pid := { r.pid with q1 := d } } ∧
      gives 0x4C#8 { r with pid := { r.pid with q2 := d } } ∧
      gives 0x60#8 { r with pid := { r.pid with ts := d } } ∧
      gives 0x70#8 { r with db := { r.db with window := d } } ∧
      gives 0x74#8 { r with db := { r.db with pol := d.extractLsb' 0 5 } } ∧
      gives 0x90#8 { r with mot := { r.mot with stepHalf := d } }

/-- WR.CTRL writes HEAT_EN, and with D[0] = 0 the gate is off in the very next state from any state (R141). -/
def Obligations.KillClearsTheGateAtOnce : Prop :=
  ∀ (s : State) (i : Inputs) (d : Word), i.rst = false →
    ∃ t u, step (s.given (i.storing 0x00 d)) = .next t ∧ step (s.given i.silent) = .next u ∧
      t.cur.zc.heatEn = d.getLsbD 0 ∧ t.resp = { rdata := 0, err := false, cause := none } ∧
      (d.getLsbD 0 = true → t.cur = { u.cur with zc := { u.cur.zc with heatEn := true } }) ∧
      (d.getLsbD 0 = false →
        (outputs t.cur).triacGate = false ∧ t.cur.zc.triac = false ∧ t.cur.zc.dlyCnt = 0 ∧
        t.cur.zc.haveEdge = false ∧ t.cur.zc.zcSilence = 0 ∧ t.cur.zc.period = s.cur.zc.period ∧
        t.cur.zc.lastCross = s.cur.zc.lastCross ∧ t.cur.sys.event.getLsbD 0 = s.cur.sys.event.getLsbD 0 ∧
        (s.cur.zc.heatEn = false → t.cur = u.cur) ∧
        t.cur.sys.event.getLsbD 4 = s.cur.sys.event.getLsbD 4)

/-- A read changes no state: the tick with it gives the state the tick without it gives (R170). -/
def Obligations.ReadsChangeNothing : Prop :=
  ∀ (s : State) (i : Inputs) (k : Nat) (d : Word), k < 39 →
    ∃ t u j v,
      step (s.given { i with valid := true, write := false, addr := BitVec.ofNat 8 (4 * k), wdata := d }) = .next t ∧
      step (s.given i.silent) = .next u ∧ t.cur = u.cur ∧
      decodeBus (1#1 ++ 0#1 ++ BitVec.ofNat 8 (4 * k) ++ d) = j ∧ exec j s = .next v ∧
      t.resp = { rdata := v.resp.rdata, err := false, cause := none }

/-- BusError is raised exactly by an illegal transaction, which changes no state and lets every unit run (R341). -/
def Obligations.BusErrorChangesNoState : Prop :=
  ∀ (s : State) (i : Inputs),
    ∃ t u, step (s.given i) = .next t ∧ step (s.given i.silent) = .next u ∧
      (t.resp.err = true ↔ Misaligned i ∨ Unmapped i ∨ WritesReadOnly i) ∧
      (t.resp.err = true → t.resp.rdata = 0 ∧ t.cur = u.cur) ∧
      (t.resp.err = false → t.resp.cause = none) ∧
      (Misaligned i → t.resp.cause = some .misaligned) ∧
      (Unmapped i → t.resp.cause = some .unmapped) ∧
      (WritesReadOnly i → t.resp.cause = some .writeRo)

/-- The eight registered outputs are the named fields of S_t (R65). -/
def Obligations.OutputsAreFunctionsOfTheState : Prop :=
  ∀ r : Regs,
    (outputs r).triacGate = r.zc.triac ∧ (outputs r).motDir = r.mot.motDir ∧ (outputs r).motEn = r.mot.motEn ∧
    (outputs r).motStep = r.mot.step ∧ (outputs r).flagRight = r.mot.flags.getLsbD 0 ∧
    (outputs r).flagLeft = r.mot.flags.getLsbD 1 ∧ (outputs r).flagPaused = r.mot.flags.getLsbD 2 ∧
    ((outputs r).irq = true ↔ r.sys.event &&& r.sys.irqEn ≠ 0)

/-- The invariant holds in the state the machine starts in and after every reset tick (10_state.md section 3, R66,
R370). -/
def Obligations.InvariantHoldsAtReset : Prop :=
  Inv State.reset.cur ∧ ∀ (z : Bool) (b : BitVec 5) (f : BitVec 3), Inv (resetImage z b f)

/-- Every step keeps the invariant, from every state that meets it and on every input (10_state.md section 3,
44_motion_stepper.md, 70_reset_and_hazards.md section 3, R66, R314, R390). -/
def Obligations.InvariantIsKeptByEveryStep : Prop :=
  ∀ s t : State, Inv s.cur → step s = .next t → Inv t.cur

/-- FLAGS is 000 only until the first transition, and the driver enable, once set, stays set until reset
(44_motion_stepper.md section 1, R66, R314). -/
def Obligations.FlagsNeverReturnToZero : Prop :=
  ∀ s : State, s.nextInput.rst = false →
    ∃ t, step s = .next t ∧
      (s.cur.mot.flags ≠ 0 → t.cur.mot.flags ≠ 0) ∧
      (s.cur.mot.motEn = true → t.cur.mot.motEn = true) ∧
      (t.cur.mot.flags ≠ s.cur.mot.flags →
        (t.cur.mot.flags = 0b001 ∨ t.cur.mot.flags = 0b010 ∨ t.cur.mot.flags = 0b100) ∧
        (Accepts s.cur s.nextInput .right ∨ Accepts s.cur s.nextInput .left ∨ Accepts s.cur s.nextInput .pause))

/-- After a timed crossing the gate is asserted for exactly FIRE_DELAY ticks (41_zero_cross.md section 4, R235, R237,
R239). -/
def Obligations.GateStaysAssertedForFireDelayTicks : Prop :=
  ∀ (s : State) (D : Nat), Crosses s.cur s.nextInput → s.cur.zc.fireDelay.toNat = D →
    D < (crossedPeriod s.cur).toNat →
    (∀ (k : Nat) (u : State), 1 ≤ k → k ≤ D → After k s u →
      u.nextInput.rst = false ∧ ¬Crosses u.cur u.nextInput ∧ ¬Killed u.nextInput ∧ ¬SilenceTooLong u.cur) →
    (∀ k, 1 ≤ k → k ≤ D → ∃ u, After k s u ∧ (outputs u.cur).triacGate = true) ∧
    ∃ u, After (D + 1) s u ∧ (outputs u.cur).triacGate = false

/-- After an accepted edge the next one is accepted exactly when the window has passed (R294). -/
def Obligations.HoldOffIsTheDebounceWindow : Prop :=
  ∀ (s : State) (b : Btn) (k : Nat), Accepts s.cur s.nextInput b → 1 ≤ k →
    (∀ (j : Nat) (u : State), 1 ≤ j → j < k → After j s u →
      u.nextInput.rst = false ∧ ¬Accepts u.cur u.nextInput b) →
    ∃ u, After k s u ∧ (holdOf b u.cur.db).toNat = s.cur.db.window.toNat - k ∧
      (u.nextInput.rst = false → RawEdge u.cur u.nextInput (btnIndex b) →
        (Accepts u.cur u.nextInput b ↔ s.cur.db.window.toNat ≤ k))

/-- A step pulse begun is high for exactly STEP_HALF ticks, and the low interval after it lasts at least as long
(44_motion_stepper.md section 2, R316, R317). -/
def Obligations.PulsesHaveTheirFullLength : Prop :=
  ∀ s : State,
    let m := s.cur.mot
    let H := m.stepHalf.toNat
    let unreset (n : Nat) : Prop := ∀ (k : Nat) (u : State), k ≤ n → After k s u → u.nextInput.rst = false
    (m.stepCnt = 0 → m.step = false → m.dir ≠ .none → m.paused = false → m.stepHalf ≠ 0 → unreset H →
      (∀ k, 1 ≤ k → k ≤ H → ∃ u, After k s u ∧ (outputs u.cur).motStep = true) ∧
      ∃ u, After (H + 1) s u ∧ (outputs u.cur).motStep = false) ∧
    (m.stepCnt = 0 → m.step = true → unreset (max H 1) →
      ∀ k, 1 ≤ k → k ≤ max H 1 → ∃ u, After k s u ∧ (outputs u.cur).motStep = false) ∧
    ∀ t, step s = .next t → m.step = false → t.cur.mot.step = true → m.dir ≠ .none ∧ m.paused = false

/-- The motion side never reads heat-side state, and the heat side never reads motion-side state (44_motion_stepper.md
section 3, 00_scope.md section 1, R3, R319). -/
def Obligations.SidesDoNotInterfere : Prop :=
  ∀ (s s' t t' : State), step s = .next t → step s' = .next t' → SameBus s.nextInput s'.nextInput →
    (SameMotionSide s.cur s'.cur → (∀ k < 3, s.nextInput.btn.getLsbD k = s'.nextInput.btn.getLsbD k) →
      SameMotionSide t.cur t'.cur) ∧
    (SameHeatSide s.cur s'.cur → s.nextInput.zcIn = s'.nextInput.zcIn →
      (∀ k, 3 ≤ k → k < 5 → s.nextInput.btn.getLsbD k = s'.nextInput.btn.getLsbD k) →
      s.nextInput.flagIn = s'.nextInput.flagIn → SameHeatSide t.cur t'.cur)
end

