-- ==== Sys2Proof/Laws/Decode.lean ====
section
/-! SUPPORT. The fields of a transaction word and of a pin vector. -/

namespace Sys2Proof

/-- The bits of a transaction word, from its four parts (R111). -/
theorem twOf_getLsbD (v w : Bool) (a : BitVec 8) (d : Word) (i : Nat) :
    (BitVec.ofBool v ++ BitVec.ofBool w ++ a ++ d : TransWord).getLsbD i =
      if i < 32 then d.getLsbD i else if i < 40 then a.getLsbD (i - 32)
      else if i = 40 then w else decide (i = 41) && v := by
  have h : (BitVec.ofBool v ++ BitVec.ofBool w ++ a ++ d : TransWord).getLsbD i =
      BitVec.getLsbD (w := 1 + 1 + 8 + 32) (BitVec.ofBool v ++ BitVec.ofBool w ++ a ++ d) i := rfl
  rw [h, BitVec.getLsbD_append, BitVec.getLsbD_append, BitVec.getLsbD_append]
  by_cases h1 : i < 32
  · simp [h1]
  · by_cases h2 : i < 40
    · simp [h1, h2, show i - 32 < 8 by omega]
    · by_cases h3 : i = 40
      · subst h3; simp
      · have h4 : ¬ (i - 32 < 8) := by omega
        have h5 : ¬ (i - 32 - 8 < 1) := by omega
        simp only [h1, h2, h3, h4, h5, if_false]
        by_cases h6 : i = 41
        · subst h6; simp
        · have h7 : i - 32 - 8 - 1 ≠ 0 := by omega
          simp [h6, BitVec.getLsbD_ofBool]; omega

theorem twValid_twOf (v w : Bool) (a : BitVec 8) (d : Word) :
    twValid (BitVec.ofBool v ++ BitVec.ofBool w ++ a ++ d) = v := by
  rw [twValid, twOf_getLsbD]; simp

theorem twWrite_twOf (v w : Bool) (a : BitVec 8) (d : Word) :
    twWrite (BitVec.ofBool v ++ BitVec.ofBool w ++ a ++ d) = w := by
  rw [twWrite, twOf_getLsbD]; simp

theorem twAddr_twOf (v w : Bool) (a : BitVec 8) (d : Word) :
    twAddr (BitVec.ofBool v ++ BitVec.ofBool w ++ a ++ d) = a := by
  apply BitVec.eq_of_getLsbD_eq
  intro i hi
  have h1 : ¬ (32 + i < 32) := by omega
  have h2 : 32 + i < 40 := by omega
  simp only [twAddr, BitVec.getLsbD_extractLsb', twOf_getLsbD, h1, h2, hi, if_true, if_false, decide_true,
    Bool.true_and, Nat.add_sub_cancel_left]

theorem twData_twOf (v w : Bool) (a : BitVec 8) (d : Word) :
    twData (BitVec.ofBool v ++ BitVec.ofBool w ++ a ++ d) = d := by
  apply BitVec.eq_of_getLsbD_eq
  intro i hi
  simp only [twData, BitVec.getLsbD_extractLsb', twOf_getLsbD, hi, Nat.zero_add, if_true, decide_true, Bool.true_and]

/-- Decoding a transaction word is the decode of its fields (R113). -/
theorem decodeBus_twOf (v w : Bool) (a : BitVec 8) (d : Word) :
    decodeBus (BitVec.ofBool v ++ BitVec.ofBool w ++ a ++ d) = decodeFields v w a d := by
  rw [decodeBus, twValid_twOf, twWrite_twOf, twAddr_twOf, twData_twOf]

/-- A transaction word is its four parts, one after another (R111). -/
theorem twOf_fields (tw : TransWord) :
    BitVec.ofBool (twValid tw) ++ BitVec.ofBool (twWrite tw) ++ twAddr tw ++ twData tw = tw := by
  apply BitVec.eq_of_getLsbD_eq
  intro i hi
  rw [twOf_getLsbD]
  by_cases h1 : i < 32
  · simp [h1, twData]
  · by_cases h2 : i < 40
    · have h3 : i - 32 < 8 := by omega
      have h4 : 32 + (i - 32) = i := by omega
      simp only [h1, h2, if_false, if_true, twAddr, BitVec.getLsbD_extractLsb', h3, decide_true, Bool.true_and, h4]
    · by_cases h5 : i = 40
      · subst h5; rfl
      · have h6 : i = 41 := by omega
        subst h6; simp [twValid]

theorem twValid_busWord (w : Bool) (a : BitVec 8) (d : Word) : twValid (busWord w a d) = true :=
  twValid_twOf true w a d

/-- Decoding a transaction word with `V = 1` is the decode of its fields (R113). -/
theorem decodeBus_busWord (w : Bool) (a : BitVec 8) (d : Word) : decodeBus (busWord w a d) = decodeFields true w a d :=
  decodeBus_twOf true w a d

/-- The bits of a pin vector, from its four parts (R110). -/
theorem pinWord_getLsbD (r z : Bool) (b : BitVec 5) (f : BitVec 3) (i : Nat) :
    (pinWord r z b f).getLsbD i =
      if i < 3 then f.getLsbD i else if i < 8 then b.getLsbD (i - 3)
      else if i = 8 then z else decide (i = 9) && r := by
  have h : (pinWord r z b f).getLsbD i =
      BitVec.getLsbD (w := 1 + 1 + 5 + 3) (BitVec.ofBool r ++ BitVec.ofBool z ++ b ++ f) i := rfl
  rw [h, BitVec.getLsbD_append, BitVec.getLsbD_append, BitVec.getLsbD_append]
  by_cases h1 : i < 3
  · simp [h1]
  · by_cases h2 : i < 8
    · simp [h1, h2, show i - 3 < 5 by omega]
    · by_cases h3 : i = 8
      · subst h3; simp
      · have h4 : ¬ (i - 3 < 5) := by omega
        have h5 : ¬ (i - 3 - 5 < 1) := by omega
        simp only [h1, h2, h3, h4, h5, if_false]
        by_cases h6 : i = 9
        · subst h6; simp
        · have h7 : i - 3 - 5 - 1 ≠ 0 := by omega
          simp [h6, BitVec.getLsbD_ofBool]; omega

@[simp] theorem pvRst_pinWord (r z : Bool) (b : BitVec 5) (f : BitVec 3) : pvRst (pinWord r z b f) = r := by
  rw [pvRst, pinWord_getLsbD]; simp

@[simp] theorem pvZc_pinWord (r z : Bool) (b : BitVec 5) (f : BitVec 3) : pvZc (pinWord r z b f) = z := by
  rw [pvZc, pinWord_getLsbD]; simp

@[simp] theorem pvBtn_pinWord (r z : Bool) (b : BitVec 5) (f : BitVec 3) : pvBtn (pinWord r z b f) = b := by
  apply BitVec.eq_of_getLsbD_eq
  intro i hi
  have h1 : ¬ (3 + i < 3) := by omega
  have h2 : 3 + i < 8 := by omega
  simp only [pvBtn, BitVec.getLsbD_extractLsb', pinWord_getLsbD, h1, h2, hi, if_true, if_false, decide_true,
    Bool.true_and, Nat.add_sub_cancel_left]

@[simp] theorem pvFlagIn_pinWord (r z : Bool) (b : BitVec 5) (f : BitVec 3) : pvFlagIn (pinWord r z b f) = f := by
  apply BitVec.eq_of_getLsbD_eq
  intro i hi
  simp only [pvFlagIn, BitVec.getLsbD_extractLsb', pinWord_getLsbD, hi, Nat.zero_add, if_true, decide_true,
    Bool.true_and]

/-- A pin vector is its four parts, one after another (R110). -/
theorem pinWord_fields (pv : PinWord) : pinWord (pvRst pv) (pvZc pv) (pvBtn pv) (pvFlagIn pv) = pv := by
  apply BitVec.eq_of_getLsbD_eq
  intro i hi
  rw [pinWord_getLsbD]
  by_cases h1 : i < 3
  · simp [h1, pvFlagIn]
  · by_cases h2 : i < 8
    · have h3 : i - 3 < 5 := by omega
      have h4 : 3 + (i - 3) = i := by omega
      simp only [h1, h2, if_false, if_true, pvBtn, BitVec.getLsbD_extractLsb', h3, decide_true, Bool.true_and, h4]
    · by_cases h5 : i = 8
      · subst h5; rfl
      · have h6 : i = 9 := by omega
        subst h6; simp [pvRst]

end Sys2Proof
end

