-- ==== Sys2Proof/Laws/State.lean ====
section
/-! SUPPORT. One lemma for each field and each update of the state being built, so that no proof unfolds a record update. -/

namespace Sys2Proof.Machine

@[simp] theorem State.updSys_nxt_sys (s : State) (f : SysRegs → SysRegs) : (s.updSys f).nxt.sys = f s.nxt.sys := rfl
@[simp] theorem State.updSys_nxt_zc (s : State) (f : SysRegs → SysRegs) : (s.updSys f).nxt.zc = s.nxt.zc := rfl
@[simp] theorem State.updSys_nxt_pid (s : State) (f : SysRegs → SysRegs) : (s.updSys f).nxt.pid = s.nxt.pid := rfl
@[simp] theorem State.updSys_nxt_db (s : State) (f : SysRegs → SysRegs) : (s.updSys f).nxt.db = s.nxt.db := rfl
@[simp] theorem State.updSys_nxt_mot (s : State) (f : SysRegs → SysRegs) : (s.updSys f).nxt.mot = s.nxt.mot := rfl
@[simp] theorem State.updSys_nxt_rx (s : State) (f : SysRegs → SysRegs) : (s.updSys f).nxt.rx = s.nxt.rx := rfl
@[simp] theorem State.updSys_cur (s : State) (f : SysRegs → SysRegs) : (s.updSys f).cur = s.cur := rfl
@[simp] theorem State.updSys_evSet (s : State) (f : SysRegs → SysRegs) : (s.updSys f).evSet = s.evSet := rfl
@[simp] theorem State.updSys_inp (s : State) (f : SysRegs → SysRegs) : (s.updSys f).inp = s.inp := rfl
@[simp] theorem State.updSys_stimulus (s : State) (f : SysRegs → SysRegs) : (s.updSys f).stimulus = s.stimulus := rfl
@[simp] theorem State.updSys_resp (s : State) (f : SysRegs → SysRegs) : (s.updSys f).resp = s.resp := rfl

@[simp] theorem State.updZc_nxt_sys (s : State) (f : ZcRegs → ZcRegs) : (s.updZc f).nxt.sys = s.nxt.sys := rfl
@[simp] theorem State.updZc_nxt_zc (s : State) (f : ZcRegs → ZcRegs) : (s.updZc f).nxt.zc = f s.nxt.zc := rfl
@[simp] theorem State.updZc_nxt_pid (s : State) (f : ZcRegs → ZcRegs) : (s.updZc f).nxt.pid = s.nxt.pid := rfl
@[simp] theorem State.updZc_nxt_db (s : State) (f : ZcRegs → ZcRegs) : (s.updZc f).nxt.db = s.nxt.db := rfl
@[simp] theorem State.updZc_nxt_mot (s : State) (f : ZcRegs → ZcRegs) : (s.updZc f).nxt.mot = s.nxt.mot := rfl
@[simp] theorem State.updZc_nxt_rx (s : State) (f : ZcRegs → ZcRegs) : (s.updZc f).nxt.rx = s.nxt.rx := rfl
@[simp] theorem State.updZc_cur (s : State) (f : ZcRegs → ZcRegs) : (s.updZc f).cur = s.cur := rfl
@[simp] theorem State.updZc_evSet (s : State) (f : ZcRegs → ZcRegs) : (s.updZc f).evSet = s.evSet := rfl
@[simp] theorem State.updZc_inp (s : State) (f : ZcRegs → ZcRegs) : (s.updZc f).inp = s.inp := rfl
@[simp] theorem State.updZc_stimulus (s : State) (f : ZcRegs → ZcRegs) : (s.updZc f).stimulus = s.stimulus := rfl
@[simp] theorem State.updZc_resp (s : State) (f : ZcRegs → ZcRegs) : (s.updZc f).resp = s.resp := rfl

@[simp] theorem State.updPid_nxt_sys (s : State) (f : PidRegs → PidRegs) : (s.updPid f).nxt.sys = s.nxt.sys := rfl
@[simp] theorem State.updPid_nxt_zc (s : State) (f : PidRegs → PidRegs) : (s.updPid f).nxt.zc = s.nxt.zc := rfl
@[simp] theorem State.updPid_nxt_pid (s : State) (f : PidRegs → PidRegs) : (s.updPid f).nxt.pid = f s.nxt.pid := rfl
@[simp] theorem State.updPid_nxt_db (s : State) (f : PidRegs → PidRegs) : (s.updPid f).nxt.db = s.nxt.db := rfl
@[simp] theorem State.updPid_nxt_mot (s : State) (f : PidRegs → PidRegs) : (s.updPid f).nxt.mot = s.nxt.mot := rfl
@[simp] theorem State.updPid_nxt_rx (s : State) (f : PidRegs → PidRegs) : (s.updPid f).nxt.rx = s.nxt.rx := rfl
@[simp] theorem State.updPid_cur (s : State) (f : PidRegs → PidRegs) : (s.updPid f).cur = s.cur := rfl
@[simp] theorem State.updPid_evSet (s : State) (f : PidRegs → PidRegs) : (s.updPid f).evSet = s.evSet := rfl
@[simp] theorem State.updPid_inp (s : State) (f : PidRegs → PidRegs) : (s.updPid f).inp = s.inp := rfl
@[simp] theorem State.updPid_stimulus (s : State) (f : PidRegs → PidRegs) : (s.updPid f).stimulus = s.stimulus := rfl
@[simp] theorem State.updPid_resp (s : State) (f : PidRegs → PidRegs) : (s.updPid f).resp = s.resp := rfl

@[simp] theorem State.updDb_nxt_sys (s : State) (f : DbRegs → DbRegs) : (s.updDb f).nxt.sys = s.nxt.sys := rfl
@[simp] theorem State.updDb_nxt_zc (s : State) (f : DbRegs → DbRegs) : (s.updDb f).nxt.zc = s.nxt.zc := rfl
@[simp] theorem State.updDb_nxt_pid (s : State) (f : DbRegs → DbRegs) : (s.updDb f).nxt.pid = s.nxt.pid := rfl
@[simp] theorem State.updDb_nxt_db (s : State) (f : DbRegs → DbRegs) : (s.updDb f).nxt.db = f s.nxt.db := rfl
@[simp] theorem State.updDb_nxt_mot (s : State) (f : DbRegs → DbRegs) : (s.updDb f).nxt.mot = s.nxt.mot := rfl
@[simp] theorem State.updDb_nxt_rx (s : State) (f : DbRegs → DbRegs) : (s.updDb f).nxt.rx = s.nxt.rx := rfl
@[simp] theorem State.updDb_cur (s : State) (f : DbRegs → DbRegs) : (s.updDb f).cur = s.cur := rfl
@[simp] theorem State.updDb_evSet (s : State) (f : DbRegs → DbRegs) : (s.updDb f).evSet = s.evSet := rfl
@[simp] theorem State.updDb_inp (s : State) (f : DbRegs → DbRegs) : (s.updDb f).inp = s.inp := rfl
@[simp] theorem State.updDb_stimulus (s : State) (f : DbRegs → DbRegs) : (s.updDb f).stimulus = s.stimulus := rfl
@[simp] theorem State.updDb_resp (s : State) (f : DbRegs → DbRegs) : (s.updDb f).resp = s.resp := rfl

@[simp] theorem State.updMot_nxt_sys (s : State) (f : MotRegs → MotRegs) : (s.updMot f).nxt.sys = s.nxt.sys := rfl
@[simp] theorem State.updMot_nxt_zc (s : State) (f : MotRegs → MotRegs) : (s.updMot f).nxt.zc = s.nxt.zc := rfl
@[simp] theorem State.updMot_nxt_pid (s : State) (f : MotRegs → MotRegs) : (s.updMot f).nxt.pid = s.nxt.pid := rfl
@[simp] theorem State.updMot_nxt_db (s : State) (f : MotRegs → MotRegs) : (s.updMot f).nxt.db = s.nxt.db := rfl
@[simp] theorem State.updMot_nxt_mot (s : State) (f : MotRegs → MotRegs) : (s.updMot f).nxt.mot = f s.nxt.mot := rfl
@[simp] theorem State.updMot_nxt_rx (s : State) (f : MotRegs → MotRegs) : (s.updMot f).nxt.rx = s.nxt.rx := rfl
@[simp] theorem State.updMot_cur (s : State) (f : MotRegs → MotRegs) : (s.updMot f).cur = s.cur := rfl
@[simp] theorem State.updMot_evSet (s : State) (f : MotRegs → MotRegs) : (s.updMot f).evSet = s.evSet := rfl
@[simp] theorem State.updMot_inp (s : State) (f : MotRegs → MotRegs) : (s.updMot f).inp = s.inp := rfl
@[simp] theorem State.updMot_stimulus (s : State) (f : MotRegs → MotRegs) : (s.updMot f).stimulus = s.stimulus := rfl
@[simp] theorem State.updMot_resp (s : State) (f : MotRegs → MotRegs) : (s.updMot f).resp = s.resp := rfl

@[simp] theorem State.updRx_nxt_sys (s : State) (f : RxRegs → RxRegs) : (s.updRx f).nxt.sys = s.nxt.sys := rfl
@[simp] theorem State.updRx_nxt_zc (s : State) (f : RxRegs → RxRegs) : (s.updRx f).nxt.zc = s.nxt.zc := rfl
@[simp] theorem State.updRx_nxt_pid (s : State) (f : RxRegs → RxRegs) : (s.updRx f).nxt.pid = s.nxt.pid := rfl
@[simp] theorem State.updRx_nxt_db (s : State) (f : RxRegs → RxRegs) : (s.updRx f).nxt.db = s.nxt.db := rfl
@[simp] theorem State.updRx_nxt_mot (s : State) (f : RxRegs → RxRegs) : (s.updRx f).nxt.mot = s.nxt.mot := rfl
@[simp] theorem State.updRx_nxt_rx (s : State) (f : RxRegs → RxRegs) : (s.updRx f).nxt.rx = f s.nxt.rx := rfl
@[simp] theorem State.updRx_cur (s : State) (f : RxRegs → RxRegs) : (s.updRx f).cur = s.cur := rfl
@[simp] theorem State.updRx_evSet (s : State) (f : RxRegs → RxRegs) : (s.updRx f).evSet = s.evSet := rfl
@[simp] theorem State.updRx_inp (s : State) (f : RxRegs → RxRegs) : (s.updRx f).inp = s.inp := rfl
@[simp] theorem State.updRx_stimulus (s : State) (f : RxRegs → RxRegs) : (s.updRx f).stimulus = s.stimulus := rfl
@[simp] theorem State.updRx_resp (s : State) (f : RxRegs → RxRegs) : (s.updRx f).resp = s.resp := rfl

@[simp] theorem State.setEvent_cur (s : State) (m : Events) : (s.setEvent m).cur = s.cur := rfl
@[simp] theorem State.setEvent_nxt (s : State) (m : Events) : (s.setEvent m).nxt = s.nxt := rfl
@[simp] theorem State.setEvent_evSet (s : State) (m : Events) : (s.setEvent m).evSet = s.evSet ||| m := rfl
@[simp] theorem State.setEvent_inp (s : State) (m : Events) : (s.setEvent m).inp = s.inp := rfl
@[simp] theorem State.setEvent_stimulus (s : State) (m : Events) : (s.setEvent m).stimulus = s.stimulus := rfl
@[simp] theorem State.setEvent_resp (s : State) (m : Events) : (s.setEvent m).resp = s.resp := rfl

@[simp] theorem State.answer_cur (s : State) (r : BusResponse) : (s.answer r).cur = s.cur := rfl
@[simp] theorem State.answer_nxt (s : State) (r : BusResponse) : (s.answer r).nxt = s.nxt := rfl
@[simp] theorem State.answer_evSet (s : State) (r : BusResponse) : (s.answer r).evSet = s.evSet := rfl
@[simp] theorem State.answer_inp (s : State) (r : BusResponse) : (s.answer r).inp = s.inp := rfl
@[simp] theorem State.answer_stimulus (s : State) (r : BusResponse) : (s.answer r).stimulus = s.stimulus := rfl
@[simp] theorem State.answer_resp (s : State) (r : BusResponse) : (s.answer r).resp = r := rfl

@[simp] theorem State.updRegs_cur (s : State) (f : Regs → Regs) : (s.updRegs f).cur = s.cur := rfl
@[simp] theorem State.updRegs_nxt (s : State) (f : Regs → Regs) : (s.updRegs f).nxt = f s.nxt := rfl
@[simp] theorem State.updRegs_evSet (s : State) (f : Regs → Regs) : (s.updRegs f).evSet = s.evSet := rfl
@[simp] theorem State.updRegs_inp (s : State) (f : Regs → Regs) : (s.updRegs f).inp = s.inp := rfl
@[simp] theorem State.updRegs_stimulus (s : State) (f : Regs → Regs) : (s.updRegs f).stimulus = s.stimulus := rfl
@[simp] theorem State.updRegs_resp (s : State) (f : Regs → Regs) : (s.updRegs f).resp = s.resp := rfl

@[simp] theorem State.when_true (s : State) (f : State → State) : s.when true f = f s := rfl
@[simp] theorem State.when_false (s : State) (f : State → State) : s.when false f = s := rfl

/-- A conditional operation does one of two things. -/
theorem State.when_cases (s : State) (c : Bool) (f : State → State) :
    (c = true ∧ s.when c f = f s) ∨ (c = false ∧ s.when c f = s) := by
  cases c <;> simp

/-- A property that holds before, and after `f` where the condition holds, holds after a conditional operation. -/
theorem State.when_keeps {P : State → Prop} {s : State} {c : Bool} {f : State → State} (h : P s)
    (hf : c = true → P (f s)) : P (s.when c f) := by
  cases c
  · exact h
  · exact hf rfl

/-- A field of a conditional operation's result. -/
theorem State.apply_when {α : Type} (g : State → α) (s : State) (c : Bool) (f : State → State) :
    g (s.when c f) = if c then g (f s) else g s := by
  cases c <;> simp

@[simp] theorem State.when_cur (s : State) (c : Bool) (f : State → State) :
    (s.when c f).cur = if c then (f s).cur else s.cur := State.apply_when (·.cur) s c f
@[simp] theorem State.when_inp (s : State) (c : Bool) (f : State → State) :
    (s.when c f).inp = if c then (f s).inp else s.inp := State.apply_when (·.inp) s c f
@[simp] theorem State.when_stimulus (s : State) (c : Bool) (f : State → State) :
    (s.when c f).stimulus = if c then (f s).stimulus else s.stimulus := State.apply_when (·.stimulus) s c f
@[simp] theorem State.when_evSet (s : State) (c : Bool) (f : State → State) :
    (s.when c f).evSet = if c then (f s).evSet else s.evSet := State.apply_when (·.evSet) s c f
@[simp] theorem State.when_resp (s : State) (c : Bool) (f : State → State) :
    (s.when c f).resp = if c then (f s).resp else s.resp := State.apply_when (·.resp) s c f
@[simp] theorem State.when_nxt_sys (s : State) (c : Bool) (f : State → State) :
    (s.when c f).nxt.sys = if c then (f s).nxt.sys else s.nxt.sys := State.apply_when (·.nxt.sys) s c f
@[simp] theorem State.when_nxt_zc (s : State) (c : Bool) (f : State → State) :
    (s.when c f).nxt.zc = if c then (f s).nxt.zc else s.nxt.zc := State.apply_when (·.nxt.zc) s c f
@[simp] theorem State.when_nxt_pid (s : State) (c : Bool) (f : State → State) :
    (s.when c f).nxt.pid = if c then (f s).nxt.pid else s.nxt.pid := State.apply_when (·.nxt.pid) s c f
@[simp] theorem State.when_nxt_db (s : State) (c : Bool) (f : State → State) :
    (s.when c f).nxt.db = if c then (f s).nxt.db else s.nxt.db := State.apply_when (·.nxt.db) s c f
@[simp] theorem State.when_nxt_mot (s : State) (c : Bool) (f : State → State) :
    (s.when c f).nxt.mot = if c then (f s).nxt.mot else s.nxt.mot := State.apply_when (·.nxt.mot) s c f
@[simp] theorem State.when_nxt_rx (s : State) (c : Bool) (f : State → State) :
    (s.when c f).nxt.rx = if c then (f s).nxt.rx else s.nxt.rx := State.apply_when (·.nxt.rx) s c f

@[simp] theorem holdOf_setHold_self (b : Btn) (v : Word) (d : DbRegs) : holdOf b (setHold b v d) = v := by
  cases b <;> rfl

theorem holdOf_setHold_ne {b c : Btn} (h : b ≠ c) (v : Word) (d : DbRegs) :
    holdOf b (setHold c v d) = holdOf b d := by
  cases b <;> cases c <;> first | rfl | exact absurd rfl h

@[simp] theorem setHold_window (b : Btn) (v : Word) (d : DbRegs) : (setHold b v d).window = d.window := by cases b <;> rfl
@[simp] theorem setHold_pol (b : Btn) (v : Word) (d : DbRegs) : (setHold b v d).pol = d.pol := by cases b <;> rfl
@[simp] theorem setHold_prev (b : Btn) (v : Word) (d : DbRegs) : (setHold b v d).prev = d.prev := by cases b <;> rfl

end Sys2Proof.Machine
end

