-- ==== Sys2Proof/Laws/Exec.lean ====
section
/-! SUPPORT. What any operation can do, said once: it answers a next state that has the same `S_t`, the same inputs and the same
stimulus. And what running a list of operations is. -/

namespace Sys2Proof.Machine

theorem State.when_same {α : Type} {g : State → α} {s : State} {c : Bool} {f : State → State}
    (h : g (f s) = g s) : g (s.when c f) = g s := by
  cases c
  · rfl
  · exact h

/-- `u` differs from `s` only in what a tick writes: the registers being built, the event set mask and the response. -/
structure SameTick (s u : State) : Prop where
  cur : u.cur = s.cur
  inp : u.inp = s.inp
  stimulus : u.stimulus = s.stimulus

theorem SameTick.refl (s : State) : SameTick s s := ⟨rfl, rfl, rfl⟩

theorem SameTick.trans {s u v : State} (h : SameTick s u) (k : SameTick u v) : SameTick s v :=
  ⟨k.cur.trans h.cur, k.inp.trans h.inp, k.stimulus.trans h.stimulus⟩

theorem SameTick.when {s u : State} {c : Bool} {f : State → State} (h : SameTick s u) (hf : SameTick u (f u)) :
    SameTick s (u.when c f) := by
  cases c
  · exact h
  · exact h.trans hf

/-- The state an operation answers. -/
def effect (i : Instr) (s : State) : State :=
  match exec i s with
  | .next t => t
  | _ => s

/-- Every operation answers a next state (R7). -/
theorem exec_eq_effect (i : Instr) (s : State) : exec i s = .next (effect i s) := by
  cases i <;> rfl

theorem sameTick_hostWrite {s : State} {f : State → State} (h : SameTick (s.answer BusResponse.idle) (f (s.answer BusResponse.idle))) :
    SameTick s (hostWrite f s) :=
  SameTick.when ⟨rfl, rfl, rfl⟩ h

theorem sameTick_hostStore (r : Reg) (d : Word) (s : State) : SameTick s (hostStore r d s) :=
  sameTick_hostWrite ⟨rfl, rfl, rfl⟩

theorem sameTick_when {s : State} {c : Bool} {f : State → State} (h : SameTick s (f s)) : SameTick s (s.when c f) :=
  .when (.refl s) h

theorem sameTick_takeSample (s : State) : SameTick s (takeSample s) := ⟨rfl, rfl, rfl⟩

theorem sameTick_takeCrossing (s : State) : SameTick s (takeCrossing s) := by
  have hu : SameTick s (measurePeriod (crossingEvents s)) := by
    constructor <;> simp [measurePeriod, crossingEvents, State.apply_when]
  unfold takeCrossing
  dsimp only
  split
  · exact hu.trans ⟨rfl, rfl, rfl⟩
  · exact hu.trans ⟨rfl, rfl, rfl⟩

theorem sameTick_buttonEdge {b : Btn} {p : Bool} {f : State → State} {s : State}
    (h : SameTick (acceptEvent b s) (f (acceptEvent b s))) : SameTick s (buttonEdge b p f s) := by
  unfold buttonEdge
  exact .when (.refl s) (SameTick.trans (u := acceptEvent b s) ⟨rfl, rfl, rfl⟩ h)

/-- No operation changes `S_t`, the inputs of the tick or the stimulus to come (R9, R20). -/
theorem sameTick_effect (i : Instr) (s : State) : SameTick s (effect i s) := by
  cases i
  case wrCtrl d => exact sameTick_hostWrite (.when ⟨rfl, rfl, rfl⟩ ⟨rfl, rfl, rfl⟩)
  case wrPidCmd d => exact sameTick_hostWrite (.when (.refl _) (sameTick_takeSample _))
  case wrEvent d => exact sameTick_hostWrite ⟨rfl, rfl, rfl⟩
  case zcRise => exact .when (.refl s) (sameTick_takeCrossing s)
  case pidSample => exact .when (.refl s) (sameTick_takeSample s)
  case btn0Edge p =>
    show SameTick s (buttonEdge .right p (·.updMot rightTransition) s)
    exact sameTick_buttonEdge ⟨rfl, rfl, rfl⟩
  case btn1Edge p =>
    show SameTick s (buttonEdge .left p (·.updMot leftTransition) s)
    exact sameTick_buttonEdge ⟨rfl, rfl, rfl⟩
  case btn2Edge p =>
    show SameTick s (buttonEdge .pause p (·.updMot pauseTransition) s)
    exact sameTick_buttonEdge ⟨rfl, rfl, rfl⟩
  case btn3Edge p =>
    show SameTick s (buttonEdge .spUp p (fun u => moveSetpoint u.cur.pid.spStep.toInt u) s)
    exact sameTick_buttonEdge ⟨rfl, rfl, rfl⟩
  case btn4Edge p =>
    show SameTick s (buttonEdge .spDown p (fun u => moveSetpoint (-u.cur.pid.spStep.toInt) u) s)
    exact sameTick_buttonEdge ⟨rfl, rfl, rfl⟩
  all_goals first
    | exact ⟨rfl, rfl, rfl⟩
    | exact sameTick_hostStore ..
    | (dsimp only [effect, exec, execRst, execFlaginSample, execNowTick, execZcOff, execDlyCount, execDlyExpire,
        execWdgCount, execWdgFire, execTsCount, execTsTick, execHold0Dec, execHold1Dec, execHold2Dec, execHold3Dec,
        execHold4Dec, holdDec, execStepCount, execStepFall, execStepRise]
       refine sameTick_when ?_
       exact ⟨rfl, rfl, rfl⟩)

/-- Running operations: each takes its effect on what the one before left. -/
def effects (is : List Instr) (s : State) : State := is.foldl (fun u i => effect i u) s

@[simp] theorem effects_nil (s : State) : effects [] s = s := rfl
@[simp] theorem effects_cons (i : Instr) (is : List Instr) (s : State) :
    effects (i :: is) s = effects is (effect i s) := rfl
theorem effects_append (is js : List Instr) (s : State) : effects (is ++ js) s = effects js (effects is s) :=
  List.foldl_append

theorem runOps_eq_effects (is : List Instr) (s : State) : runOps is s = .next (effects is s) := by
  induction is generalizing s with
  | nil => rfl
  | cons i is ih => simp [runOps, exec_eq_effect, andThen, ih]

theorem runOps_append (is js : List Instr) (s : State) :
    runOps (is ++ js) s = andThen (runOps is s) (runOps js) := by
  simp [runOps_eq_effects, effects_append, andThen]

theorem sameTick_effects (is : List Instr) (s : State) : SameTick s (effects is s) := by
  induction is generalizing s with
  | nil => exact .refl s
  | cons i is ih => exact (sameTick_effect i s).trans (ih _)

/-- A tick, as the effects of its operations between its start and its end. -/
theorem tick_eq (s : State) :
    tick s = .next (commitTick (effects (schedule s.nextInput) (beginTick s))) := by
  simp [tick, runOps_eq_effects, andThen]

/-- What a tick can do to the machine around the registers: it keeps the sampled inputs, drops one vector of the stimulus and ends
between ticks. -/
theorem tick_cases {s t : State} (h : tick s = .next t) :
    t = commitTick (effects (schedule s.nextInput) (beginTick s)) ∧ t.inp = s.nextInput ∧
      t.stimulus = s.stimulus.tail ∧ t.nxt = t.cur ∧ t.evSet = 0#13 := by
  rw [tick_eq] at h
  cases h
  have k := sameTick_effects (schedule s.nextInput) (beginTick s)
  exact ⟨rfl, k.inp, k.stimulus, rfl, rfl⟩

end Sys2Proof.Machine
end

