-- ==== Sys2Proof/Laws/Bus.lean ====
section
/-! SUPPORT. What the bus operation of a tick can do, said once: it writes the response, and where the tick has a legal write it does one
of nineteen things to the registers being built. -/

namespace Sys2Proof.Machine

theorem decodeBus_tw (i : Inputs) : decodeBus i.tw = decodeFields i.valid i.write i.addr i.wdata :=
  decodeBus_twOf i.valid i.write i.addr i.wdata

/-- What a legal write does beyond its answer, one line for each of the nineteen writable addresses (R141 to R161); at most one of
them is written. -/
def hostAct (i : Inputs) (u : State) : State :=
  let d := i.wdata
  u |>.when (writesTo i 0x00#8) (fun u => (u.updZc (fun z => { z with heatEn := d.getLsbD 0 })).when (!d.getLsbD 0) idleUnit)
    |>.when (writesTo i 0x08#8) (fun u => u.updSys (fun y => { y with event := u.cur.sys.event &&& ~~~(d.extractLsb' 0 13) }))
    |>.when (stepCmd i) takeSample
    |>.when (writesTo i 0x0C#8) (·.updRegs (regWrite .irqEn d))
    |>.when (writesTo i 0x1C#8) (·.updRegs (regWrite .fireDelay d))
    |>.when (writesTo i 0x24#8) (·.updRegs (regWrite .guard d))
    |>.when (writesTo i 0x28#8) (·.updRegs (regWrite .zcTimeout d))
    |>.when (writesTo i 0x30#8) (·.updRegs (regWrite .temp d))
    |>.when (writesTo i 0x34#8) (·.updRegs (regWrite .setpoint d))
    |>.when (writesTo i 0x38#8) (·.updRegs (regWrite .spStep d))
    |>.when (writesTo i 0x3C#8) (·.updRegs (regWrite .spMin d))
    |>.when (writesTo i 0x40#8) (·.updRegs (regWrite .spMax d))
    |>.when (writesTo i 0x44#8) (·.updRegs (regWrite .q0 d))
    |>.when (writesTo i 0x48#8) (·.updRegs (regWrite .q1 d))
    |>.when (writesTo i 0x4C#8) (·.updRegs (regWrite .q2 d))
    |>.when (writesTo i 0x60#8) (·.updRegs (regWrite .ts d))
    |>.when (writesTo i 0x70#8) (·.updRegs (regWrite .dbWindow d))
    |>.when (writesTo i 0x74#8) (·.updRegs (regWrite .btnPol d))
    |>.when (writesTo i 0x90#8) (·.updRegs (regWrite .stepHalf d))

theorem bitVec8_cases {P : BitVec 8 → Prop} (h : ∀ n < 256, P (BitVec.ofNat 8 n)) (a : BitVec 8) : P a := by
  have := h a.toNat a.isLt
  rwa [BitVec.ofNat_toNat, BitVec.setWidth_eq] at this

/-- The response of a tick (R140). -/
def busResponse (i : Inputs) (u : State) : BusResponse := (effect (decodeBus i.tw) u).resp

theorem effect_decodeFields (i : Inputs) (u : State) (j : Instr) (h : decodeFields i.valid i.write i.addr i.wdata = j) :
    effect j u = (u.answer (effect j u).resp).when (!u.inp.rst) (hostAct i) := by
  obtain ⟨rst, zc, btn, fl, v, w, a, d⟩ := i
  dsimp only at h
  cases v
  · subst h; cases hr : u.inp.rst <;> rfl
  · revert a
    refine bitVec8_cases fun n hn h => ?_
    cases w
    · interval_cases n <;> (conv at h => lhs; whnf) <;> subst h <;> cases hr : u.inp.rst <;> rfl
    · interval_cases n <;> (conv at h => lhs; whnf) <;> subst h <;> cases hr : u.inp.rst <;>
        first
        | rfl
        | (cases hd : d.getLsbD 0 <;>
            simp only [effect, exec, execWrCtrl, execWrPidCmd, execWrEvent, execWrIrqEn, execWrFireDelay, execWrGuard,
              execWrZcTimeout, execWrTemp, execWrSetpoint, execWrSpStep, execWrSpMin, execWrSpMax, execWrQ0, execWrQ1,
              execWrQ2, execWrTs, execWrDbWindow, execWrBtnPol, execWrStepHalf, hostStore, hostWrite, hr, hd, Bool.not_false, Bool.not_true,
              State.when_true, State.when_false, hostAct, stepCmd] <;> rfl)

/-- The bus operation of a tick answers and, unless `rst = 1`, does its write. -/
theorem effect_bus (i : Inputs) (u : State) :
    effect (decodeBus i.tw) u = (u.answer (busResponse i u)).when (!u.inp.rst) (hostAct i) :=
  effect_decodeFields i u _ (decodeBus_tw i).symm

theorem writesTo_iff (i : Inputs) (a : BitVec 8) :
    writesTo i a = true ↔ i.valid = true ∧ i.write = true ∧ i.addr = a := by
  simp [writesTo, and_assoc]

/-- The time base and events after the host's write. -/
def hostSys (i : Inputs) (r : Regs) (y : SysRegs) : SysRegs :=
  let y := if writesTo i 0x08#8 then { y with event := r.sys.event &&& ~~~(i.wdata.extractLsb' 0 13) } else y
  if writesTo i 0x0C#8 then { y with irqEn := i.wdata.extractLsb' 0 13 } else y

/-- The zero-cross unit after the host's write. -/
def hostZc (i : Inputs) (r : Regs) (z : ZcRegs) : ZcRegs :=
  let z :=
    if writesTo i 0x00#8 then
      if i.wdata.getLsbD 0 then { z with heatEn := true }
      else { z with heatEn := false, triac := false, dlyCnt := 0#32, haveEdge := false, zcSilence := 0#32 }
    else z
  let z := if stepCmd i then { z with fireDelay := sampleDelay r } else z
  let z := if writesTo i 0x1C#8 then { z with fireDelay := i.wdata } else z
  let z := if writesTo i 0x24#8 then { z with guard := i.wdata } else z
  let z := if writesTo i 0x28#8 then { z with zcTimeout := i.wdata } else z
  z

/-- The PID unit after the host's write. -/
def hostPid (i : Inputs) (r : Regs) (p : PidRegs) : PidRegs :=
  let p :=
    if stepCmd i then
      { p with
        pidRaw := wordOfInt (satS32 (sampleRaw r.pid))
        pidOut := wordOfInt (sampleOut r.pid)
        e2 := r.pid.e1
        e1 := wordOfInt (sampleError r.pid)
        sampleCount := r.pid.sampleCount + 1#32 }
    else p
  let p := if writesTo i 0x30#8 then { p with temp := i.wdata } else p
  let p := if writesTo i 0x34#8 then { p with setpoint := i.wdata } else p
  let p := if writesTo i 0x38#8 then { p with spStep := i.wdata } else p
  let p := if writesTo i 0x3C#8 then { p with spMin := i.wdata } else p
  let p := if writesTo i 0x40#8 then { p with spMax := i.wdata } else p
  let p := if writesTo i 0x44#8 then { p with q0 := i.wdata } else p
  let p := if writesTo i 0x48#8 then { p with q1 := i.wdata } else p
  let p := if writesTo i 0x4C#8 then { p with q2 := i.wdata } else p
  let p := if writesTo i 0x60#8 then { p with ts := i.wdata } else p
  p

/-- The latches after the host's write. -/
def hostDb (i : Inputs) (d : DbRegs) : DbRegs :=
  let d := if writesTo i 0x70#8 then { d with window := i.wdata } else d
  if writesTo i 0x74#8 then { d with pol := i.wdata.extractLsb' 0 5 } else d

/-- The motion side after the host's write. -/
def hostMot (i : Inputs) (m : MotRegs) : MotRegs :=
  if writesTo i 0x90#8 then { m with stepHalf := i.wdata } else m

/-- The events the host's write sets: those of a commanded sample. -/
def hostEvents (i : Inputs) (r : Regs) : Events := if stepCmd i then sampleEvents r.pid else 0#13

@[simp] theorem takeSample_nxt_zc (u : State) :
    (takeSample u).nxt.zc = { u.nxt.zc with fireDelay := sampleDelay u.cur } := rfl
@[simp] theorem takeSample_nxt_pid (u : State) : (takeSample u).nxt.pid =
    { u.nxt.pid with
      pidRaw := wordOfInt (satS32 (sampleRaw u.cur.pid))
      pidOut := wordOfInt (sampleOut u.cur.pid)
      e2 := u.cur.pid.e1
      e1 := wordOfInt (sampleError u.cur.pid)
      sampleCount := u.cur.pid.sampleCount + 1#32 } := rfl
@[simp] theorem takeSample_nxt_sys (u : State) : (takeSample u).nxt.sys = u.nxt.sys := rfl
@[simp] theorem takeSample_nxt_db (u : State) : (takeSample u).nxt.db = u.nxt.db := rfl
@[simp] theorem takeSample_nxt_mot (u : State) : (takeSample u).nxt.mot = u.nxt.mot := rfl
@[simp] theorem takeSample_nxt_rx (u : State) : (takeSample u).nxt.rx = u.nxt.rx := rfl
@[simp] theorem takeSample_evSet (u : State) : (takeSample u).evSet = u.evSet ||| sampleEvents u.cur.pid := rfl
@[simp] theorem takeSample_cur (u : State) : (takeSample u).cur = u.cur := rfl

theorem hostAct_sys (i : Inputs) (u : State) : (hostAct i u).nxt.sys = hostSys i u.cur u.nxt.sys := by
  cases hd : i.wdata.getLsbD 0 <;> simp only [hostAct, hostSys, hd] <;> simp [regWrite, idleUnit]
theorem hostAct_zc (i : Inputs) (u : State) : (hostAct i u).nxt.zc = hostZc i u.cur u.nxt.zc := by
  cases hd : i.wdata.getLsbD 0 <;> simp only [hostAct, hostZc, hd] <;> simp [regWrite, idleUnit]
theorem hostAct_pid (i : Inputs) (u : State) : (hostAct i u).nxt.pid = hostPid i u.cur u.nxt.pid := by
  cases hd : i.wdata.getLsbD 0 <;> simp only [hostAct, hostPid, hd] <;> simp [regWrite, idleUnit]
theorem hostAct_db (i : Inputs) (u : State) : (hostAct i u).nxt.db = hostDb i u.nxt.db := by
  cases hd : i.wdata.getLsbD 0 <;> simp only [hostAct, hostDb, hd] <;> simp [regWrite, idleUnit]
theorem hostAct_mot (i : Inputs) (u : State) : (hostAct i u).nxt.mot = hostMot i u.nxt.mot := by
  cases hd : i.wdata.getLsbD 0 <;> simp only [hostAct, hostMot, hd] <;> simp [regWrite, idleUnit]
theorem hostAct_rx (i : Inputs) (u : State) : (hostAct i u).nxt.rx = u.nxt.rx := by
  cases hd : i.wdata.getLsbD 0 <;> simp only [hostAct, hd] <;> simp [regWrite, idleUnit]
theorem hostAct_evSet (i : Inputs) (u : State) : (hostAct i u).evSet = u.evSet ||| hostEvents i u.cur := by
  cases hd : i.wdata.getLsbD 0 <;> simp only [hostAct, hostEvents, hd] <;> simp [idleUnit] <;> split <;> simp
@[simp] theorem takeSample_resp (u : State) : (takeSample u).resp = u.resp := rfl
theorem hostAct_resp (i : Inputs) (u : State) : (hostAct i u).resp = u.resp := by
  cases hd : i.wdata.getLsbD 0 <;> simp only [hostAct, hd] <;> simp [idleUnit]

end Sys2Proof.Machine
end

