-- ==== Sys2Proof/Laws/Units.lean ====
section
/-! SUPPORT. What each pin and internal operation does to each group of registers, as a function of the state at the start of the tick; so
that a tick is one fold for each group. -/

namespace Sys2Proof.Machine

theorem SameTick.crossing {s u : State} (h : SameTick s u) : crossing u = crossing s := by
  simp [Machine.crossing, heatOn, zcEdge, h.cur, h.inp]
theorem SameTick.quiet {s u : State} (h : SameTick s u) : quiet u = quiet s := by
  simp [Machine.quiet, heatOn, zcEdge, h.cur, h.inp]
theorem SameTick.unitOff {s u : State} (h : SameTick s u) : unitOff u = unitOff s := by
  simp [Machine.unitOff, heatOn, h.cur, h.inp]
theorem SameTick.crossPeriod {s u : State} (h : SameTick s u) : crossPeriod u = crossPeriod s := by
  simp [Machine.crossPeriod, h.cur]
theorem SameTick.sampleDue {s u : State} (h : SameTick s u) : sampleDue u = sampleDue s := by
  simp [Machine.sampleDue, h.cur, h.inp]
theorem SameTick.accepted {s u : State} (h : SameTick s u) (b : Btn) (p : Bool) : accepted u b p = accepted s b p := by
  simp [Machine.accepted, h.cur, h.inp]

/-- The operations of a tick that are not on the bus. -/
def isUnitOp : Instr → Bool
  | .zcRise | .btn0Edge _ | .btn1Edge _ | .btn2Edge _ | .btn3Edge _ | .btn4Edge _ | .flaginSample _ | .nowTick | .zcOff
  | .dlyCount | .dlyExpire | .wdgCount | .wdgFire | .tsCount | .tsTick | .pidSample | .hold0Dec | .hold1Dec | .hold2Dec
  | .hold3Dec | .hold4Dec | .stepCount | .stepFall | .stepRise | .stepIdle => true
  | _ => false

/-- The time base, in a tick that starts from `s`. -/
def sysPart (s : State) (i : Instr) (y : SysRegs) : SysRegs :=
  match i with
  | .nowTick => if s.inp.rst then y else { y with now := s.cur.sys.now + 1#32 }
  | _ => y

/-- The zero-cross unit with `FIRE_DELAY`, in a tick that starts from `s`. -/
def zcPart (s : State) (i : Instr) (z : ZcRegs) : ZcRegs :=
  match i with
  | .zcRise =>
    if crossing s then
      { z with
        zcSilence := 0#32
        period := if s.cur.zc.haveEdge then crossPeriod s else z.period
        periodValid := s.cur.zc.haveEdge || z.periodValid
        lastCross := s.cur.sys.now
        haveEdge := true
        dlyCnt := if s.cur.zc.fireDelay < crossPeriod s then s.cur.zc.fireDelay else 0#32
        triac := if s.cur.zc.fireDelay < crossPeriod s then s.cur.zc.fireDelay != 0#32 else true
        fireDelay := if s.cur.zc.fireDelay < crossPeriod s then z.fireDelay else crossPeriod s }
    else z
  | .zcOff => if unitOff s then { z with triac := false, dlyCnt := 0#32, haveEdge := false, zcSilence := 0#32 } else z
  | .dlyCount => if quiet s && decide (2#32 ≤ s.cur.zc.dlyCnt) then { z with dlyCnt := s.cur.zc.dlyCnt - 1#32 } else z
  | .dlyExpire => if quiet s && s.cur.zc.dlyCnt == 1#32 then { z with triac := false, dlyCnt := 0#32 } else z
  | .wdgCount => if quiet s then { z with zcSilence := incSaturating s.cur.zc.zcSilence } else z
  | .wdgFire =>
    if quiet s && watchdogDue s.cur.zc then { z with triac := false, dlyCnt := 0#32, haveEdge := false } else z
  | .pidSample => if sampleDue s then { z with fireDelay := sampleDelay s.cur } else z
  | _ => z

/-- The PID unit and the setpoint, in a tick that starts from `s`. -/
def pidPart (s : State) (i : Instr) (p : PidRegs) : PidRegs :=
  match i with
  | .btn3Edge l =>
    if accepted s .spUp l then
      { p with setpoint := wordOfInt (clampInt (p.setpoint.toInt + s.cur.pid.spStep.toInt) s.cur.pid.spMin.toInt
          s.cur.pid.spMax.toInt) }
    else p
  | .btn4Edge l =>
    if accepted s .spDown l then
      { p with setpoint := wordOfInt (clampInt (p.setpoint.toInt + -s.cur.pid.spStep.toInt) s.cur.pid.spMin.toInt
          s.cur.pid.spMax.toInt) }
    else p
  | .tsCount =>
    if s.inp.rst then p
    else { p with tsCnt := if s.cur.pid.ts = 0#32 ∨ autoSample s.cur.pid then 0#32 else s.cur.pid.tsCnt + 1#32 }
  | .tsTick => if !s.inp.rst && autoSample s.cur.pid then { p with tsCnt := 0#32 } else p
  | .pidSample =>
    if sampleDue s then
      { p with
        pidRaw := wordOfInt (satS32 (sampleRaw s.cur.pid))
        pidOut := wordOfInt (sampleOut s.cur.pid)
        e2 := s.cur.pid.e1
        e1 := wordOfInt (sampleError s.cur.pid)
        sampleCount := s.cur.pid.sampleCount + 1#32 }
    else p
  | _ => p

/-- A latch's hold-off after an accepted edge. -/
def acceptPart (s : State) (b : Btn) (l : Bool) (d : DbRegs) : DbRegs :=
  if accepted s b l then setHold b (decToZero s.cur.db.window) d else d

/-- A latch's hold-off in a tick without an accepted edge. -/
def decPart (s : State) (b : Btn) (d : DbRegs) : DbRegs :=
  if !s.inp.rst && !accepted s b (btnLevel s.inp b) then setHold b (decToZero (holdOf b s.cur.db)) d else d

/-- The latches, in a tick that starts from `s`. -/
def dbPart (s : State) (i : Instr) (d : DbRegs) : DbRegs :=
  match i with
  | .btn0Edge l => acceptPart s .right l d
  | .btn1Edge l => acceptPart s .left l d
  | .btn2Edge l => acceptPart s .pause l d
  | .btn3Edge l => acceptPart s .spUp l d
  | .btn4Edge l => acceptPart s .spDown l d
  | .hold0Dec => decPart s .right d
  | .hold1Dec => decPart s .left d
  | .hold2Dec => decPart s .pause d
  | .hold3Dec => decPart s .spUp d
  | .hold4Dec => decPart s .spDown d
  | _ => d

/-- The motion side, in a tick that starts from `s`. -/
def motPart (s : State) (i : Instr) (m : MotRegs) : MotRegs :=
  match i with
  | .btn0Edge l => if accepted s .right l then rightTransition m else m
  | .btn1Edge l => if accepted s .left l then leftTransition m else m
  | .btn2Edge l => if accepted s .pause l then pauseTransition m else m
  | .stepCount =>
    if !s.inp.rst && s.cur.mot.stepCnt != 0#32 then { m with stepCnt := s.cur.mot.stepCnt - 1#32 } else m
  | .stepFall =>
    if !s.inp.rst && s.cur.mot.stepCnt == 0#32 && s.cur.mot.step then
      { m with step := false, stepCnt := decToZero s.cur.mot.stepHalf }
    else m
  | .stepRise =>
    if !s.inp.rst && s.cur.mot.stepCnt == 0#32 && !s.cur.mot.step && pulseDue s.cur.mot then
      { m with step := true, stepCnt := s.cur.mot.stepHalf - 1#32 }
    else m
  | _ => m

/-- The flag receiver, in a tick that starts from `s`. -/
def rxPart (s : State) (i : Instr) (x : RxRegs) : RxRegs :=
  match i with
  | .flaginSample f => if s.inp.rst then x else { flagInS := f, lastDir := receiveFlags f s.cur.rx.lastDir }
  | _ => x

/-- The event of an accepted edge. -/
def accMask (s : State) (b : Btn) (l : Bool) : Events := if accepted s b l then evBtnAcc b else 0#13

/-- The events an operation sets, in a tick that starts from `s`. -/
def evPart (s : State) (i : Instr) : Events :=
  match i with
  | .zcRise =>
    if crossing s then
      evZc ||| (if s.cur.zc.dlyCnt != 0#32 then evZcRetrig else 0#13) |||
        (if s.cur.zc.fireDelay < crossPeriod s then 0#13 else evDlyClamp)
    else 0#13
  | .dlyExpire => if quiet s && s.cur.zc.dlyCnt == 1#32 then evFireDone else 0#13
  | .wdgFire => if quiet s && watchdogDue s.cur.zc then evSyncLost else 0#13
  | .pidSample => if sampleDue s then sampleEvents s.cur.pid else 0#13
  | .btn0Edge l => accMask s .right l
  | .btn1Edge l => accMask s .left l
  | .btn2Edge l => accMask s .pause l
  | .btn3Edge l => accMask s .spUp l
  | .btn4Edge l => accMask s .spDown l
  | _ => 0#13

/-- All of what a unit's operation does, group by group. -/
structure PartsOf (s : State) (i : Instr) (u v : State) : Prop where
  sys : v.nxt.sys = sysPart s i u.nxt.sys
  zc : v.nxt.zc = zcPart s i u.nxt.zc
  pid : v.nxt.pid = pidPart s i u.nxt.pid
  db : v.nxt.db = dbPart s i u.nxt.db
  mot : v.nxt.mot = motPart s i u.nxt.mot
  rx : v.nxt.rx = rxPart s i u.nxt.rx
  evSet : v.evSet = u.evSet ||| evPart s i
  resp : v.resp = u.resp

theorem takeCrossing_parts {s u : State} (h : SameTick s u) :
    (takeCrossing u).nxt.sys = u.nxt.sys ∧ (takeCrossing u).nxt.pid = u.nxt.pid ∧
    (takeCrossing u).nxt.db = u.nxt.db ∧ (takeCrossing u).nxt.mot = u.nxt.mot ∧
    (takeCrossing u).nxt.rx = u.nxt.rx ∧ (takeCrossing u).resp = u.resp ∧
    (takeCrossing u).nxt.zc =
      { u.nxt.zc with
        zcSilence := 0#32
        period := if s.cur.zc.haveEdge then crossPeriod s else u.nxt.zc.period
        periodValid := s.cur.zc.haveEdge || u.nxt.zc.periodValid
        lastCross := s.cur.sys.now
        haveEdge := true
        dlyCnt := if s.cur.zc.fireDelay < crossPeriod s then s.cur.zc.fireDelay else 0#32
        triac := if s.cur.zc.fireDelay < crossPeriod s then s.cur.zc.fireDelay != 0#32 else true
        fireDelay := if s.cur.zc.fireDelay < crossPeriod s then u.nxt.zc.fireDelay else crossPeriod s } ∧
    (takeCrossing u).evSet = u.evSet ||| (evZc ||| (if s.cur.zc.dlyCnt != 0#32 then evZcRetrig else 0#13) |||
        (if s.cur.zc.fireDelay < crossPeriod s then 0#13 else evDlyClamp)) := by
  have hp : crossPeriod (measurePeriod (crossingEvents u)) = crossPeriod s := by
    apply SameTick.crossPeriod
    exact h.trans (by constructor <;> simp [measurePeriod, crossingEvents])
  have hc : (measurePeriod (crossingEvents u)).cur = s.cur := by
    simp [measurePeriod, crossingEvents, h.cur]
  unfold takeCrossing
  by_cases hf : s.cur.zc.fireDelay < crossPeriod s <;> by_cases he : s.cur.zc.haveEdge <;>
    by_cases hd : s.cur.zc.dlyCnt = 0#32 <;>
    simp [h.crossPeriod, h.cur, hf, timedBranch, clampBranch, hp, hc] <;>
    simp [measurePeriod, crossingEvents, crossPeriod, h.cur, he, hd, BitVec.or_assoc]

theorem effect_parts {s u : State} (h : SameTick s u) (i : Instr) (hi : isUnitOp i = true) :
    PartsOf s i u (effect i u) := by
  cases i <;> first | (simp [isUnitOp] at hi; done) | skip
  case zcRise =>
    obtain ⟨h1, h2, h3, h4, h5, h6, h7, h8⟩ := takeCrossing_parts h
    constructor <;> cases hc : crossing s <;>
      simp [effect, exec, execZcRise, h.crossing, hc, sysPart, zcPart, pidPart, dbPart, motPart, rxPart, evPart, h1, h2, h3, h4,
        h5, h6, h7, h8]
  case pidSample =>
    constructor <;> cases hc : sampleDue s <;>
      simp [effect, exec, execPidSample, takeSample, h.sampleDue, h.cur, hc, sysPart, zcPart, pidPart, dbPart, motPart, rxPart,
        evPart]
  all_goals
    constructor <;>
      simp [effect, exec, execBtn0Edge, execBtn1Edge, execBtn2Edge, execBtn3Edge, execBtn4Edge, buttonEdge, acceptEvent,
        moveSetpoint, execFlaginSample, execNowTick, execZcOff, idleUnit, execDlyCount, execDlyExpire, execWdgCount,
        execWdgFire, execTsCount, execTsTick, execHold0Dec, execHold1Dec, execHold2Dec, execHold3Dec, execHold4Dec, holdDec,
        execStepCount, execStepFall, execStepRise, execStepIdle, sysPart, zcPart, pidPart, dbPart, acceptPart, decPart,
        motPart, rxPart, evPart, accMask, h.accepted, h.quiet, h.unitOff, h.cur, h.inp]
  all_goals try split <;> simp_all

end Sys2Proof.Machine
end

