-- ==== Sys2Proof/Laws/Tick.lean ====
section
/-! SUPPORT. What a tick can do, said once, group by group: the fold of its unit operations, then the host's write, then the merge of the
events. The parts `sysPart`, `zcPart`, … are of Laws/Units.lean. -/

namespace Sys2Proof.Machine

@[simp] theorem beginTick_cur (s : State) : (beginTick s).cur = s.cur := rfl
@[simp] theorem beginTick_inp (s : State) : (beginTick s).inp = s.nextInput := rfl

theorem effects_parts {s : State} (is : List Instr) (hi : ∀ i ∈ is, isUnitOp i = true) {u : State} (h : SameTick s u) :
    (effects is u).nxt.sys = is.foldl (fun x i => sysPart s i x) u.nxt.sys ∧
    (effects is u).nxt.zc = is.foldl (fun x i => zcPart s i x) u.nxt.zc ∧
    (effects is u).nxt.pid = is.foldl (fun x i => pidPart s i x) u.nxt.pid ∧
    (effects is u).nxt.db = is.foldl (fun x i => dbPart s i x) u.nxt.db ∧
    (effects is u).nxt.mot = is.foldl (fun x i => motPart s i x) u.nxt.mot ∧
    (effects is u).nxt.rx = is.foldl (fun x i => rxPart s i x) u.nxt.rx ∧
    (effects is u).evSet = is.foldl (fun x i => x ||| evPart s i) u.evSet := by
  induction is generalizing u with
  | nil => exact ⟨rfl, rfl, rfl, rfl, rfl, rfl, rfl⟩
  | cons i is ih =>
    have p := effect_parts h i (hi i (by simp))
    have k := ih (fun j hj => hi j (by simp [hj])) (h.trans (sameTick_effect i u))
    simp only [effects_cons, List.foldl_cons, ← p.sys, ← p.zc, ← p.pid, ← p.db, ← p.mot, ← p.rx, ← p.evSet]
    exact k

/-- The unit operations of a tick without reset, `ZC.RISE` always among them: where `zc_in` is 0 it does nothing. -/
def unitOps (i : Inputs) : List Instr :=
  [.zcRise, .btn0Edge (i.btn.getLsbD 0), .btn1Edge (i.btn.getLsbD 1), .btn2Edge (i.btn.getLsbD 2),
    .btn3Edge (i.btn.getLsbD 3), .btn4Edge (i.btn.getLsbD 4), .flaginSample i.flagIn] ++ internalOps

theorem pvRst_pv (i : Inputs) : pvRst i.pv = i.rst := pvRst_pinWord ..
theorem pvZc_pv (i : Inputs) : pvZc i.pv = i.zcIn := pvZc_pinWord ..
theorem pvBtn_pv (i : Inputs) : pvBtn i.pv = i.btn := pvBtn_pinWord ..
theorem pvFlagIn_pv (i : Inputs) : pvFlagIn i.pv = i.flagIn := pvFlagIn_pinWord ..

theorem effects_pins_internal {s : State} (h : s.inp.rst = false) :
    effects (decodePins s.inp.pv ++ internalOps) s = effects (unitOps s.inp) s := by
  have hd : decodePins s.inp.pv = (if s.inp.zcIn then [Instr.zcRise] else []) ++
      [.btn0Edge (s.inp.btn.getLsbD 0), .btn1Edge (s.inp.btn.getLsbD 1), .btn2Edge (s.inp.btn.getLsbD 2),
        .btn3Edge (s.inp.btn.getLsbD 3), .btn4Edge (s.inp.btn.getLsbD 4), .flaginSample s.inp.flagIn] := by
    rw [decodePins, pvRst_pv, pvZc_pv, pvBtn_pv, pvFlagIn_pv, h]; rfl
  have hz : effects (if s.inp.zcIn then [Instr.zcRise] else []) s = effect .zcRise s := by
    cases hz : s.inp.zcIn
    · have : crossing s = false := by simp [crossing, zcEdge, hz]
      simp [effect, exec, execZcRise, this]
    · rfl
  rw [hd, effects_append, effects_append, hz, unitOps, effects_append]
  rfl

/-- The registers and the event set mask once every unit has run. -/
def unitsRun (s : State) : State := effects (unitOps s.nextInput) (beginTick s)

theorem unitOps_isUnitOp (i : Inputs) : ∀ j ∈ unitOps i, isUnitOp j = true := by
  simp [unitOps, internalOps, isUnitOp]

theorem unitsRun_sameTick (s : State) : SameTick (beginTick s) (unitsRun s) := sameTick_effects _ _

theorem unitsRun_sys (s : State) : (unitsRun s).nxt.sys = sysPart (beginTick s) .nowTick s.cur.sys := by
  rw [unitsRun, (effects_parts _ (unitOps_isUnitOp _) (.refl _)).1]
  have h0 : (beginTick s).nxt.sys = s.cur.sys := rfl
  simp only [unitOps, internalOps, List.cons_append, List.nil_append, List.foldl_cons, List.foldl_nil, sysPart, h0]

theorem unitsRun_zc (s : State) : (unitsRun s).nxt.zc =
    (let b := beginTick s
    zcPart b .pidSample <| zcPart b .wdgFire <| zcPart b .wdgCount <| zcPart b .dlyExpire <| zcPart b .dlyCount <|
      zcPart b .zcOff <| zcPart b .zcRise { s.cur.zc with zcPrev := s.nextInput.zcIn }) := by
  rw [unitsRun, (effects_parts _ (unitOps_isUnitOp _) (.refl _)).2.1]
  have h0 : (beginTick s).nxt.zc = { s.cur.zc with zcPrev := s.nextInput.zcIn } := rfl
  simp only [unitOps, internalOps, List.cons_append, List.nil_append, List.foldl_cons, List.foldl_nil, zcPart, h0]

theorem unitsRun_pid (s : State) : (unitsRun s).nxt.pid =
    (let b := beginTick s
    pidPart b .pidSample <| pidPart b .tsTick <| pidPart b .tsCount <| pidPart b (.btn4Edge (s.nextInput.btn.getLsbD 4)) <|
      pidPart b (.btn3Edge (s.nextInput.btn.getLsbD 3)) s.cur.pid) := by
  rw [unitsRun, (effects_parts _ (unitOps_isUnitOp _) (.refl _)).2.2.1]
  have h0 : (beginTick s).nxt.pid = s.cur.pid := rfl
  simp only [unitOps, internalOps, List.cons_append, List.nil_append, List.foldl_cons, List.foldl_nil, pidPart, h0]

theorem unitsRun_db (s : State) : (unitsRun s).nxt.db =
    (let b := beginTick s
    let l := s.nextInput.btn
    decPart b .spDown <| decPart b .spUp <| decPart b .pause <| decPart b .left <| decPart b .right <|
      acceptPart b .spDown (l.getLsbD 4) <| acceptPart b .spUp (l.getLsbD 3) <| acceptPart b .pause (l.getLsbD 2) <|
      acceptPart b .left (l.getLsbD 1) <| acceptPart b .right (l.getLsbD 0) { s.cur.db with prev := l }) := by
  rw [unitsRun, (effects_parts _ (unitOps_isUnitOp _) (.refl _)).2.2.2.1]
  have h0 : (beginTick s).nxt.db = { s.cur.db with prev := s.nextInput.btn } := rfl
  simp only [unitOps, internalOps, List.cons_append, List.nil_append, List.foldl_cons, List.foldl_nil, dbPart, h0]

theorem unitsRun_mot (s : State) : (unitsRun s).nxt.mot =
    (let b := beginTick s
    let l := s.nextInput.btn
    motPart b .stepRise <| motPart b .stepFall <| motPart b .stepCount <| motPart b (.btn2Edge (l.getLsbD 2)) <|
      motPart b (.btn1Edge (l.getLsbD 1)) <| motPart b (.btn0Edge (l.getLsbD 0)) s.cur.mot) := by
  rw [unitsRun, (effects_parts _ (unitOps_isUnitOp _) (.refl _)).2.2.2.2.1]
  have h0 : (beginTick s).nxt.mot = s.cur.mot := rfl
  simp only [unitOps, internalOps, List.cons_append, List.nil_append, List.foldl_cons, List.foldl_nil, motPart, h0]

theorem unitsRun_rx (s : State) : (unitsRun s).nxt.rx =
    rxPart (beginTick s) (.flaginSample s.nextInput.flagIn) s.cur.rx := by
  rw [unitsRun, (effects_parts _ (unitOps_isUnitOp _) (.refl _)).2.2.2.2.2.1]
  have h0 : (beginTick s).nxt.rx = s.cur.rx := rfl
  simp only [unitOps, internalOps, List.cons_append, List.nil_append, List.foldl_cons, List.foldl_nil, rxPart, h0]

theorem unitsRun_evSet (s : State) : (unitsRun s).evSet =
    (unitOps s.nextInput).foldl (fun x i => x ||| evPart (beginTick s) i) 0#13 :=
  (effects_parts _ (unitOps_isUnitOp _) (.refl _)).2.2.2.2.2.2

theorem effects_schedule {s : State} (h : s.nextInput.rst = false) :
    effects (schedule s.nextInput) (beginTick s) = effect (decodeBus s.nextInput.tw) (unitsRun s) := by
  have h1 : effects (decodePins s.nextInput.pv ++ internalOps) (beginTick s) = unitsRun s :=
    effects_pins_internal (s := beginTick s) h
  rw [schedule, effects_append, h1, effects_cons, effects_nil]

/-- A tick without reset: the units run, then the host's write, then the events are joined. -/
theorem tick_units {s : State} (h : s.nextInput.rst = false) :
    step s = .next (commitTick (hostAct s.nextInput
      ((unitsRun s).answer (busResponse s.nextInput (unitsRun s))))) := by
  have h2 := effect_bus s.nextInput (unitsRun s)
  rw [(unitsRun_sameTick s).inp, show (beginTick s).inp.rst = false from h, Bool.not_false, State.when_true] at h2
  rw [step, tick_eq, effects_schedule h, h2]

/-- What a tick without reset does, group by group. -/
structure TickOf (s t : State) : Prop where
  inp : t.inp = s.nextInput
  stimulus : t.stimulus = s.stimulus.tail
  resp : t.resp = busResponse s.nextInput (unitsRun s)
  now : t.cur.sys.now = (hostSys s.nextInput s.cur (unitsRun s).nxt.sys).now
  irqEn : t.cur.sys.irqEn = (hostSys s.nextInput s.cur (unitsRun s).nxt.sys).irqEn
  event : t.cur.sys.event = (hostSys s.nextInput s.cur (unitsRun s).nxt.sys).event |||
    ((unitsRun s).evSet ||| hostEvents s.nextInput s.cur)
  zc : t.cur.zc = hostZc s.nextInput s.cur (unitsRun s).nxt.zc
  pid : t.cur.pid = hostPid s.nextInput s.cur (unitsRun s).nxt.pid
  db : t.cur.db = hostDb s.nextInput (unitsRun s).nxt.db
  mot : t.cur.mot = hostMot s.nextInput (unitsRun s).nxt.mot
  rx : t.cur.rx = (unitsRun s).nxt.rx

theorem tick_groups {s : State} (h : s.nextInput.rst = false) : ∃ t, step s = .next t ∧ TickOf s t := by
  refine ⟨_, tick_units h, ?_⟩
  have hc : (unitsRun s).cur = s.cur := (unitsRun_sameTick s).cur
  have k := sameTick_effects (schedule s.nextInput) (beginTick s)
  have h2 := effect_bus s.nextInput (unitsRun s)
  rw [(unitsRun_sameTick s).inp, show (beginTick s).inp.rst = false from h, Bool.not_false, State.when_true] at h2
  rw [effects_schedule h, h2] at k
  generalize hu : unitsRun s = u at *
  constructor
  · exact k.inp
  · exact k.stimulus
  · rw [hu]
    exact hostAct_resp _ (u.answer (busResponse s.nextInput u))
  all_goals
    simp only [commitTick, mergeEvents, hostAct_sys, hostAct_zc, hostAct_pid, hostAct_db, hostAct_mot, hostAct_rx,
      hostAct_evSet, State.answer_nxt, State.answer_cur, State.answer_evSet, hc, hu]

end Sys2Proof.Machine
end

