-- ==== Sys2Proof/Laws/Terms.lean ====
section
/-! SUPPORT. The conditions of Safety.lean, in the spec's words, are the conditions of Machine/Ops.lean; and the values of the fixed-point
operations (R11) as integers. -/

namespace Sys2Proof.Machine

theorem writesTo_eq (i : Inputs) (a : BitVec 8) : writesTo i a = decide (HostWrites i a) := by
  rw [Bool.eq_iff_iff]; simp [writesTo, and_assoc]

theorem kill_eq (i : Inputs) : kill i = decide (Killed i) := by
  rw [Bool.eq_iff_iff, kill, writesTo_eq]; simp [-BitVec.getLsbD_eq_getElem]

theorem stepCmd_eq (i : Inputs) : stepCmd i = decide (HostWrites i 0x6C#8 ∧ i.wdata.getLsbD 0 = true) := by
  rw [Bool.eq_iff_iff, stepCmd, writesTo_eq]; simp [-BitVec.getLsbD_eq_getElem]

theorem heatOn_eq (s : State) : heatOn s = decide (UnitOn s.cur s.inp) := by
  rw [Bool.eq_iff_iff, heatOn, kill_eq, syncLost]; simp [-BitVec.getLsbD_eq_getElem, -not_and, and_assoc]

theorem crossing_eq (s : State) : crossing s = decide (Crosses s.cur s.inp) := by
  rw [Bool.eq_iff_iff, crossing, heatOn_eq, zcEdge]
  simp only [Bool.and_eq_true, Bool.not_eq_true', decide_eq_true_eq, Crosses, ZcRises, and_assoc]

theorem quiet_eq (s : State) : quiet s = decide (Quiet s.cur s.inp) := by
  rw [Bool.eq_iff_iff, quiet, heatOn_eq, zcEdge]
  simp only [Bool.and_eq_true, Bool.not_eq_true', decide_eq_true_eq, Quiet, ZcRises, and_assoc, Bool.and_eq_false_iff,
    Bool.not_eq_false', not_and_or, Bool.not_eq_true, Bool.not_eq_false]

theorem unitOff_eq (s : State) : unitOff s = decide (s.inp.rst = false ∧ ¬UnitOn s.cur s.inp) := by
  rw [Bool.eq_iff_iff, unitOff, heatOn_eq]
  simp only [Bool.and_eq_true, Bool.not_eq_true', decide_eq_true_eq, decide_eq_false_iff_not]

theorem crossPeriod_eq (s : State) : crossPeriod s = crossedPeriod s.cur := rfl

theorem incSaturating_toNat (n : Word) : (incSaturating n).toNat = min (n.toNat + 1) (2 ^ 32 - 1) := by
  have := n.isLt
  by_cases h : n = 0xFFFFFFFF#32
  · subst h; rfl
  · have h' : n.toNat ≠ 4294967295 := fun k => h (BitVec.eq_of_toNat_eq k)
    simp [incSaturating, h]; omega

theorem watchdogDue_eq (r : Regs) : watchdogDue r.zc = decide (SilenceTooLong r) := by
  rw [Bool.eq_iff_iff, watchdogDue]
  simp [BitVec.le_def, incSaturating_toNat]

theorem decToZero_toNat (n : Word) : (decToZero n).toNat = n.toNat - 1 := by
  have := n.isLt
  by_cases h : n = 0#32
  · subst h; rfl
  · have h' : n.toNat ≠ 0 := fun k => h (BitVec.eq_of_toNat_eq k)
    simp [decToZero, h]; omega

theorem autoSample_eq (r : Regs) : autoSample r.pid = decide (SampleTick r) := by
  rw [Bool.eq_iff_iff, autoSample]; simp

theorem sampleDue_eq (s : State) : sampleDue s = decide (Samples s.cur s.inp) := by
  rw [Bool.eq_iff_iff, sampleDue, stepCmd_eq, autoSample_eq]
  simp only [Bool.and_eq_true, Bool.or_eq_true, Bool.not_eq_true', decide_eq_true_eq, Samples]

theorem accepted_eq (s : State) (b : Btn) (p : Bool) :
    accepted s b p = decide (s.inp.rst = false ∧ EdgeTo s.cur (btnIndex b) p ∧ holdOf b s.cur.db = 0#32) := by
  rw [Bool.eq_iff_iff, accepted, rawEdge, decide_eq_true_eq, EdgeTo]
  generalize s.cur.db.pol.getLsbD (btnIndex b) = x, s.cur.db.prev.getLsbD (btnIndex b) = y
  cases p <;> cases x <;> cases y <;> simp

theorem accepted_level_eq (s : State) (b : Btn) :
    accepted s b (s.inp.btn.getLsbD (btnIndex b)) = decide (Accepts s.cur s.inp b) := accepted_eq ..

theorem clampInt_le (x : Int) {lo hi : Int} (h : lo ≤ hi) : lo ≤ clampInt x lo hi ∧ clampInt x lo hi ≤ hi := by
  unfold clampInt; omega

/-- A value in the signed range survives the store (R10). -/
theorem wordOfInt_toInt {x : Int} (h : -2147483648 ≤ x) (k : x ≤ 2147483647) : (wordOfInt x).toInt = x := by
  rw [wordOfInt, BitVec.toInt_ofInt, Int.bmod_eq_of_le] <;> omega

/-- A value in the unsigned range survives the store (R10). -/
theorem wordOfInt_toNat {x : Int} (h : 0 ≤ x) (k : x < 4294967296) : ((wordOfInt x).toNat : Int) = x := by
  rw [wordOfInt, BitVec.toNat_ofInt]; omega

theorem sampleError_eq (p : PidRegs) : sampleError p = errorOf p := by
  unfold sampleError errorOf satS32 clampInt; norm_num

theorem recurrence_eq (p : PidRegs) : recurrence p = accumulated p := by
  rw [recurrence, accumulated, sampleError_eq]

theorem sampleRaw_eq (p : PidRegs) : sampleRaw p = rawOf p := by
  rw [sampleRaw, rawOf, floorQ16, recurrence_eq, Int.fdiv_eq_ediv_of_nonneg _ (by norm_num)]

theorem sampleOut_eq (p : PidRegs) : sampleOut p = powerOf p := by
  rw [sampleOut, powerOf, clampInt, sampleRaw_eq]; norm_num

theorem mapDelay_eq (r : Regs) : mapDelay r.zc.period r.zc.guard (sampleOut r.pid) = delayOf r := by
  have h1 := r.zc.period.isLt
  unfold mapDelay delayOf clampInt
  rw [sampleOut_eq]
  by_cases h : r.zc.period < r.zc.guard
  · rw [if_pos h, if_pos (BitVec.lt_def.1 h)]; omega
  · rw [if_neg h, if_neg (fun k => h (BitVec.lt_def.2 k)), Int.fdiv_eq_ediv_of_nonneg _ (by norm_num)]; norm_num

theorem delayOf_range (r : Regs) : 0 ≤ delayOf r ∧ delayOf r ≤ r.zc.period.toNat := by
  unfold delayOf; omega

theorem sampleDelay_toNat (r : Regs) : ((sampleDelay r).toNat : Int) = delayOf r := by
  have h := r.zc.period.isLt
  have k := delayOf_range r
  rw [sampleDelay, mapDelay_eq]
  exact wordOfInt_toNat k.1 (by omega)

end Sys2Proof.Machine
end

