-- ==== Sys2Proof/Laws/Ops.lean ====
section
/-! SUPPORT. For each shared operation, what it can do, said once: the register file, the host port and its bus error, the button event, the
hold-off, the setpoint, the sample and the crossing. -/

namespace Sys2Proof.Machine

/-! ### The register file -/

/-- A register with a full-width plain store reads back what was stored (R145). -/
theorem regRead_regWrite_same (r : Reg) (d : Word) (q : Regs)
    (h : r ∈ [Reg.fireDelay, .guard, .zcTimeout, .temp, .setpoint, .spStep, .spMin, .spMax, .q0, .q1, .q2, .ts, .dbWindow,
      .stepHalf]) : regRead r (regWrite r d q) = d := by
  cases r <;> first | rfl | simp at h

/-- `IRQ_EN` reads back its 13 bits (R144, R174). -/
theorem regRead_regWrite_irqEn (d : Word) (q : Regs) :
    regRead .irqEn (regWrite .irqEn d q) = 0#19 ++ d.extractLsb' 0 13 := rfl

/-- `BTN_POL` reads back its 5 bits (R159, R200). -/
theorem regRead_regWrite_btnPol (d : Word) (q : Regs) :
    regRead .btnPol (regWrite .btnPol d q) = 0#27 ++ d.extractLsb' 0 5 := rfl

/-- A store to one register leaves what every other reads; `STATUS` alone shows `IRQ_EN` through its `irq` bit (R33). -/
theorem regRead_regWrite_other (r r' : Reg) (d : Word) (q : Regs) (h : r' ≠ r) (k : r' ≠ .status ∨ r ≠ .irqEn) :
    regRead r' (regWrite r d q) = regRead r' q := by
  cases r <;> first
    | rfl
    | (cases r' <;> first | rfl | exact absurd rfl h | simp at k)

@[simp] theorem holdOf_setHold_same (b : Btn) (v : Word) (d : DbRegs) : holdOf b (setHold b v d) = v := by
  cases b <;> rfl

theorem holdOf_setHold_other {b c : Btn} (v : Word) (d : DbRegs) (h : c ≠ b) :
    holdOf c (setHold b v d) = holdOf c d := by
  cases b <;> cases c <;> first | rfl | exact absurd rfl h

/-! ### The host port -/

/-- A read writes the response and nothing else (R170). -/
theorem hostRead_eq (r : Reg) (s : State) : hostRead r s = s.replied (regRead r s.cur) := rfl

/-- A bus error writes the response and nothing else (R341). -/
theorem raiseBusError_eq (c : BusCause) (s : State) : raiseBusError c s = s.rejected c := rfl

/-- A legal write answers 0, and beyond that does nothing in a reset tick and `f` in every other (R140). -/
theorem hostWrite_cases (f : State → State) (s : State) :
    s.inp.rst = true ∧ hostWrite f s = s.replied 0 ∨ s.inp.rst = false ∧ hostWrite f s = f (s.replied 0) := by
  unfold hostWrite
  cases s.inp.rst
  · exact .inr ⟨rfl, rfl⟩
  · exact .inl ⟨rfl, rfl⟩

/-- A plain store writes its register alone, and not in a reset tick (R145). -/
theorem hostStore_eq (r : Reg) (d : Word) (s : State) :
    hostStore r d s = { s.replied 0 with nxt := if s.inp.rst then s.nxt else regWrite r d s.nxt } := by
  rcases hostWrite_cases (fun u => u.updRegs (regWrite r d)) s with ⟨h, k⟩ | ⟨h, k⟩
  · rw [hostStore, k, h]; rfl
  · rw [hostStore, k, h]; rfl

/-! ### The latches and the setpoint -/

/-- A button operation does nothing, or accepts the edge and runs its transition (R293). -/
theorem buttonEdge_cases (b : Btn) (p : Bool) (f : State → State) (s : State) :
    accepted s b p = false ∧ buttonEdge b p f s = s ∨ accepted s b p = true ∧ buttonEdge b p f s = f (acceptEvent b s) := by
  unfold buttonEdge
  cases accepted s b p
  · exact .inl ⟨rfl, rfl⟩
  · exact .inr ⟨rfl, rfl⟩

/-- Accepting an event loads the hold-off of the button and sets its event bit (R293). -/
theorem acceptEvent_eq (b : Btn) (s : State) :
    acceptEvent b s =
      { s with
        evSet := s.evSet ||| evBtnAcc b
        nxt := { s.nxt with db := setHold b (decToZero s.cur.db.window) s.nxt.db } } := rfl

/-- A hold-off operation counts its own hold-off in a tick without an accepted event, or does nothing (R295). -/
theorem holdDec_eq (b : Btn) (s : State) :
    holdDec b s =
      if s.inp.rst = false ∧ ¬Accepts s.cur s.inp b then
        { s with nxt := { s.nxt with db := setHold b (decToZero (holdOf b s.cur.db)) s.nxt.db } } else s := by
  unfold holdDec
  rw [btnLevel, accepted_level_eq]
  by_cases h : s.inp.rst = false ∧ ¬Accepts s.cur s.inp b
  · rw [if_pos h]; simp only [h.1, h.2, decide_false, Bool.not_false, Bool.and_self]; rfl
  · rw [if_neg h]
    rcases Bool.eq_false_or_eq_true s.inp.rst with hr | hr
    · simp [hr]
    · have : Accepts s.cur s.inp b := by by_contra k; exact h ⟨hr, k⟩
      rw [decide_eq_true this, Bool.not_true, Bool.and_false, State.when_false]

/-- The moved setpoint is the exact sum, bounded, with `SP_MIN` winning (R297). -/
theorem moveSetpoint_toInt (delta : Int) (s : State) :
    (moveSetpoint delta s).nxt.pid.setpoint.toInt =
      max s.cur.pid.spMin.toInt (min s.cur.pid.spMax.toInt (s.nxt.pid.setpoint.toInt + delta)) := by
  have h1 := s.cur.pid.spMin.le_two_mul_toInt
  have h2 := s.cur.pid.spMin.two_mul_toInt_lt
  have h3 := s.cur.pid.spMax.le_two_mul_toInt
  have h4 := s.cur.pid.spMax.two_mul_toInt_lt
  show (wordOfInt (clampInt _ _ _)).toInt = _
  rw [wordOfInt_toInt] <;> unfold clampInt <;> norm_num at * <;> omega

/-! ### The sample and the crossing -/

/-- A sample writes `PID_RAW`, `PID_OUT`, `E1`, `E2`, `SAMPLE_COUNT`, `FIRE_DELAY` and the event set mask (R261 to R268). -/
theorem takeSample_eq (s : State) :
    takeSample s =
      { s with
        evSet := s.evSet ||| sampleEvents s.cur.pid
        nxt := { s.nxt with
          pid := { s.nxt.pid with
            pidRaw := wordOfInt (satS32 (sampleRaw s.cur.pid))
            pidOut := wordOfInt (sampleOut s.cur.pid)
            e2 := s.cur.pid.e1
            e1 := wordOfInt (sampleError s.cur.pid)
            sampleCount := s.cur.pid.sampleCount + 1#32 }
          zc := { s.nxt.zc with fireDelay := sampleDelay s.cur } } } := rfl

/-- What every crossing does to the zero-cross unit (R232, R233, R235, R236), the two branches apart. -/
theorem takeCrossing_zc (s : State) :
    (takeCrossing s).nxt.zc =
      { s.nxt.zc with
        zcSilence := 0#32
        period := if s.cur.zc.haveEdge then crossPeriod s else s.nxt.zc.period
        periodValid := if s.cur.zc.haveEdge then true else s.nxt.zc.periodValid
        lastCross := s.cur.sys.now
        haveEdge := true
        dlyCnt := if s.cur.zc.fireDelay < crossPeriod s then s.cur.zc.fireDelay else 0#32
        triac := if s.cur.zc.fireDelay < crossPeriod s then s.cur.zc.fireDelay != 0#32 else true
        fireDelay := if s.cur.zc.fireDelay < crossPeriod s then s.nxt.zc.fireDelay else crossPeriod s } := by
  unfold takeCrossing
  dsimp only
  by_cases h : s.cur.zc.fireDelay < crossPeriod s
  · simp only [if_pos h]
    cases hd : s.cur.zc.dlyCnt != 0#32 <;> cases he : s.cur.zc.haveEdge <;>
      simp only [timedBranch, measurePeriod, crossingEvents, hd, he, State.when_true, State.when_false, State.updZc_cur,
        State.setEvent_cur] <;> rfl
  · simp only [if_neg h]
    cases hd : s.cur.zc.dlyCnt != 0#32 <;> cases he : s.cur.zc.haveEdge <;>
      simp only [clampBranch, measurePeriod, crossingEvents, hd, he, State.when_true, State.when_false, State.updZc_cur,
        State.setEvent_cur] <;> rfl

end Sys2Proof.Machine
end

