-- ==== Sys2Proof/Laws/PerInstr.lean ====
section
/-! SUPPORT. A statement about every operation as syntax, one lemma for each constructor: an operation that has a transaction word has `V = 1`
in it, `NOP` excepted (R111). -/

namespace Sys2Proof.Laws.TransactionValid

/-- Only `NOP` is encoded by a transaction word with `V = 0` (R111, R142). -/
def Statement (i : Instr) : Prop := ∀ tw, encode i = .bus tw → i ≠ .nop → twValid tw = true

theorem nop : Statement .nop := fun _ _ h => absurd rfl h
theorem rdCtrl : Statement .rdCtrl := by
  intro tw h _; cases h; exact twValid_busWord ..
theorem rdStatus : Statement .rdStatus := by
  intro tw h _; cases h; exact twValid_busWord ..
theorem rdEvent : Statement .rdEvent := by
  intro tw h _; cases h; exact twValid_busWord ..
theorem rdIrqEn : Statement .rdIrqEn := by
  intro tw h _; cases h; exact twValid_busWord ..
theorem rdNow : Statement .rdNow := by
  intro tw h _; cases h; exact twValid_busWord ..
theorem rdLastCross : Statement .rdLastCross := by
  intro tw h _; cases h; exact twValid_busWord ..
theorem rdPeriod : Statement .rdPeriod := by
  intro tw h _; cases h; exact twValid_busWord ..
theorem rdFireDelay : Statement .rdFireDelay := by
  intro tw h _; cases h; exact twValid_busWord ..
theorem rdDlyCnt : Statement .rdDlyCnt := by
  intro tw h _; cases h; exact twValid_busWord ..
theorem rdGuard : Statement .rdGuard := by
  intro tw h _; cases h; exact twValid_busWord ..
theorem rdZcTimeout : Statement .rdZcTimeout := by
  intro tw h _; cases h; exact twValid_busWord ..
theorem rdZcSilence : Statement .rdZcSilence := by
  intro tw h _; cases h; exact twValid_busWord ..
theorem rdTemp : Statement .rdTemp := by
  intro tw h _; cases h; exact twValid_busWord ..
theorem rdSetpoint : Statement .rdSetpoint := by
  intro tw h _; cases h; exact twValid_busWord ..
theorem rdSpStep : Statement .rdSpStep := by
  intro tw h _; cases h; exact twValid_busWord ..
theorem rdSpMin : Statement .rdSpMin := by
  intro tw h _; cases h; exact twValid_busWord ..
theorem rdSpMax : Statement .rdSpMax := by
  intro tw h _; cases h; exact twValid_busWord ..
theorem rdQ0 : Statement .rdQ0 := by
  intro tw h _; cases h; exact twValid_busWord ..
theorem rdQ1 : Statement .rdQ1 := by
  intro tw h _; cases h; exact twValid_busWord ..
theorem rdQ2 : Statement .rdQ2 := by
  intro tw h _; cases h; exact twValid_busWord ..
theorem rdE1 : Statement .rdE1 := by
  intro tw h _; cases h; exact twValid_busWord ..
theorem rdE2 : Statement .rdE2 := by
  intro tw h _; cases h; exact twValid_busWord ..
theorem rdPidOut : Statement .rdPidOut := by
  intro tw h _; cases h; exact twValid_busWord ..
theorem rdPidRaw : Statement .rdPidRaw := by
  intro tw h _; cases h; exact twValid_busWord ..
theorem rdTs : Statement .rdTs := by
  intro tw h _; cases h; exact twValid_busWord ..
theorem rdTsCnt : Statement .rdTsCnt := by
  intro tw h _; cases h; exact twValid_busWord ..
theorem rdSampleCount : Statement .rdSampleCount := by
  intro tw h _; cases h; exact twValid_busWord ..
theorem rdPidCmd : Statement .rdPidCmd := by
  intro tw h _; cases h; exact twValid_busWord ..
theorem rdDbWindow : Statement .rdDbWindow := by
  intro tw h _; cases h; exact twValid_busWord ..
theorem rdBtnPol : Statement .rdBtnPol := by
  intro tw h _; cases h; exact twValid_busWord ..
theorem rdDbHold0 : Statement .rdDbHold0 := by
  intro tw h _; cases h; exact twValid_busWord ..
theorem rdDbHold1 : Statement .rdDbHold1 := by
  intro tw h _; cases h; exact twValid_busWord ..
theorem rdDbHold2 : Statement .rdDbHold2 := by
  intro tw h _; cases h; exact twValid_busWord ..
theorem rdDbHold3 : Statement .rdDbHold3 := by
  intro tw h _; cases h; exact twValid_busWord ..
theorem rdDbHold4 : Statement .rdDbHold4 := by
  intro tw h _; cases h; exact twValid_busWord ..
theorem rdMotion : Statement .rdMotion := by
  intro tw h _; cases h; exact twValid_busWord ..
theorem rdStepHalf : Statement .rdStepHalf := by
  intro tw h _; cases h; exact twValid_busWord ..
theorem rdStepCnt : Statement .rdStepCnt := by
  intro tw h _; cases h; exact twValid_busWord ..
theorem rdFlagRx : Statement .rdFlagRx := by
  intro tw h _; cases h; exact twValid_busWord ..
theorem wrCtrl (d : Word) : Statement (.wrCtrl d) := by
  intro tw h _; cases h; exact twValid_busWord ..
theorem wrRoStatus (d : Word) : Statement (.wrRoStatus d) := by
  intro tw h _; cases h; exact twValid_busWord ..
theorem wrEvent (d : Word) : Statement (.wrEvent d) := by
  intro tw h _; cases h; exact twValid_busWord ..
theorem wrIrqEn (d : Word) : Statement (.wrIrqEn d) := by
  intro tw h _; cases h; exact twValid_busWord ..
theorem wrRoNow (d : Word) : Statement (.wrRoNow d) := by
  intro tw h _; cases h; exact twValid_busWord ..
theorem wrRoLastCross (d : Word) : Statement (.wrRoLastCross d) := by
  intro tw h _; cases h; exact twValid_busWord ..
theorem wrRoPeriod (d : Word) : Statement (.wrRoPeriod d) := by
  intro tw h _; cases h; exact twValid_busWord ..
theorem wrFireDelay (d : Word) : Statement (.wrFireDelay d) := by
  intro tw h _; cases h; exact twValid_busWord ..
theorem wrRoDlyCnt (d : Word) : Statement (.wrRoDlyCnt d) := by
  intro tw h _; cases h; exact twValid_busWord ..
theorem wrGuard (d : Word) : Statement (.wrGuard d) := by
  intro tw h _; cases h; exact twValid_busWord ..
theorem wrZcTimeout (d : Word) : Statement (.wrZcTimeout d) := by
  intro tw h _; cases h; exact twValid_busWord ..
theorem wrRoZcSilence (d : Word) : Statement (.wrRoZcSilence d) := by
  intro tw h _; cases h; exact twValid_busWord ..
theorem wrTemp (d : Word) : Statement (.wrTemp d) := by
  intro tw h _; cases h; exact twValid_busWord ..
theorem wrSetpoint (d : Word) : Statement (.wrSetpoint d) := by
  intro tw h _; cases h; exact twValid_busWord ..
theorem wrSpStep (d : Word) : Statement (.wrSpStep d) := by
  intro tw h _; cases h; exact twValid_busWord ..
theorem wrSpMin (d : Word) : Statement (.wrSpMin d) := by
  intro tw h _; cases h; exact twValid_busWord ..
theorem wrSpMax (d : Word) : Statement (.wrSpMax d) := by
  intro tw h _; cases h; exact twValid_busWord ..
theorem wrQ0 (d : Word) : Statement (.wrQ0 d) := by
  intro tw h _; cases h; exact twValid_busWord ..
theorem wrQ1 (d : Word) : Statement (.wrQ1 d) := by
  intro tw h _; cases h; exact twValid_busWord ..
theorem wrQ2 (d : Word) : Statement (.wrQ2 d) := by
  intro tw h _; cases h; exact twValid_busWord ..
theorem wrRoE1 (d : Word) : Statement (.wrRoE1 d) := by
  intro tw h _; cases h; exact twValid_busWord ..
theorem wrRoE2 (d : Word) : Statement (.wrRoE2 d) := by
  intro tw h _; cases h; exact twValid_busWord ..
theorem wrRoPidOut (d : Word) : Statement (.wrRoPidOut d) := by
  intro tw h _; cases h; exact twValid_busWord ..
theorem wrRoPidRaw (d : Word) : Statement (.wrRoPidRaw d) := by
  intro tw h _; cases h; exact twValid_busWord ..
theorem wrTs (d : Word) : Statement (.wrTs d) := by
  intro tw h _; cases h; exact twValid_busWord ..
theorem wrRoTsCnt (d : Word) : Statement (.wrRoTsCnt d) := by
  intro tw h _; cases h; exact twValid_busWord ..
theorem wrRoSampleCount (d : Word) : Statement (.wrRoSampleCount d) := by
  intro tw h _; cases h; exact twValid_busWord ..
theorem wrPidCmd (d : Word) : Statement (.wrPidCmd d) := by
  intro tw h _; cases h; exact twValid_busWord ..
theorem wrDbWindow (d : Word) : Statement (.wrDbWindow d) := by
  intro tw h _; cases h; exact twValid_busWord ..
theorem wrBtnPol (d : Word) : Statement (.wrBtnPol d) := by
  intro tw h _; cases h; exact twValid_busWord ..
theorem wrRoDbHold0 (d : Word) : Statement (.wrRoDbHold0 d) := by
  intro tw h _; cases h; exact twValid_busWord ..
theorem wrRoDbHold1 (d : Word) : Statement (.wrRoDbHold1 d) := by
  intro tw h _; cases h; exact twValid_busWord ..
theorem wrRoDbHold2 (d : Word) : Statement (.wrRoDbHold2 d) := by
  intro tw h _; cases h; exact twValid_busWord ..
theorem wrRoDbHold3 (d : Word) : Statement (.wrRoDbHold3 d) := by
  intro tw h _; cases h; exact twValid_busWord ..
theorem wrRoDbHold4 (d : Word) : Statement (.wrRoDbHold4 d) := by
  intro tw h _; cases h; exact twValid_busWord ..
theorem wrRoMotion (d : Word) : Statement (.wrRoMotion d) := by
  intro tw h _; cases h; exact twValid_busWord ..
theorem wrStepHalf (d : Word) : Statement (.wrStepHalf d) := by
  intro tw h _; cases h; exact twValid_busWord ..
theorem wrRoStepCnt (d : Word) : Statement (.wrRoStepCnt d) := by
  intro tw h _; cases h; exact twValid_busWord ..
theorem wrRoFlagRx (d : Word) : Statement (.wrRoFlagRx d) := by
  intro tw h _; cases h; exact twValid_busWord ..
theorem busUnmapped (w : Bool) (a : BitVec 6) (d : Word) : Statement (.busUnmapped w a d) := by
  intro tw h _; cases h; exact twValid_busWord ..
theorem busMisaligned (w : Bool) (a : BitVec 6) (b : BitVec 2) (d : Word) : Statement (.busMisaligned w a b d) := by
  intro tw h _; cases h; exact twValid_busWord ..
theorem rst : Statement .rst := by
  intro tw h _; cases h
theorem zcRise : Statement .zcRise := by
  intro tw h _; cases h
theorem btn0Edge (p : Bool) : Statement (.btn0Edge p) := by
  intro tw h _; cases h
theorem btn1Edge (p : Bool) : Statement (.btn1Edge p) := by
  intro tw h _; cases h
theorem btn2Edge (p : Bool) : Statement (.btn2Edge p) := by
  intro tw h _; cases h
theorem btn3Edge (p : Bool) : Statement (.btn3Edge p) := by
  intro tw h _; cases h
theorem btn4Edge (p : Bool) : Statement (.btn4Edge p) := by
  intro tw h _; cases h
theorem flaginSample (f : BitVec 3) : Statement (.flaginSample f) := by
  intro tw h _; cases h
theorem nowTick : Statement .nowTick := by
  intro tw h _; cases h
theorem zcOff : Statement .zcOff := by
  intro tw h _; cases h
theorem dlyCount : Statement .dlyCount := by
  intro tw h _; cases h
theorem dlyExpire : Statement .dlyExpire := by
  intro tw h _; cases h
theorem wdgCount : Statement .wdgCount := by
  intro tw h _; cases h
theorem wdgFire : Statement .wdgFire := by
  intro tw h _; cases h
theorem tsCount : Statement .tsCount := by
  intro tw h _; cases h
theorem tsTick : Statement .tsTick := by
  intro tw h _; cases h
theorem pidSample : Statement .pidSample := by
  intro tw h _; cases h
theorem hold0Dec : Statement .hold0Dec := by
  intro tw h _; cases h
theorem hold1Dec : Statement .hold1Dec := by
  intro tw h _; cases h
theorem hold2Dec : Statement .hold2Dec := by
  intro tw h _; cases h
theorem hold3Dec : Statement .hold3Dec := by
  intro tw h _; cases h
theorem hold4Dec : Statement .hold4Dec := by
  intro tw h _; cases h
theorem stepCount : Statement .stepCount := by
  intro tw h _; cases h
theorem stepFall : Statement .stepFall := by
  intro tw h _; cases h
theorem stepRise : Statement .stepRise := by
  intro tw h _; cases h
theorem stepIdle : Statement .stepIdle := by
  intro tw h _; cases h

end Sys2Proof.Laws.TransactionValid
end

