-- ==== Sys2Proof/Laws/Run.lean ====
section
/-! SUPPORT. Runs of several ticks: every tick has exactly one next state, so `After` is a function. -/

namespace Sys2Proof.Machine

/-- The state after one tick. -/
def ticked (s : State) : State := commitTick (effects (schedule s.nextInput) (beginTick s))

/-- The state after `k` ticks. -/
def ticks : Nat → State → State
  | 0, s => s
  | k + 1, s => ticks k (ticked s)

theorem step_eq_ticked (s : State) : step s = .next (ticked s) := tick_eq s

theorem step_next_iff {s t : State} : step s = .next t ↔ t = ticked s := by
  rw [step_eq_ticked]; exact ⟨fun h => (Host.Outcome.next.inj h).symm, fun h => h ▸ rfl⟩

theorem after_iff {k : Nat} {s u : State} : After k s u ↔ u = ticks k s := by
  induction k generalizing s with
  | zero => exact Iff.rfl
  | succ k ih => simp only [After, step_next_iff, ih, exists_eq_left, ticks]

theorem ticks_succ (k : Nat) (s : State) : ticks (k + 1) s = ticked (ticks k s) := by
  induction k generalizing s with
  | zero => rfl
  | succ k ih => exact ih (ticked s)

theorem after_succ_right {k : Nat} {s u : State} : After (k + 1) s u ↔ ∃ t, After k s t ∧ step t = .next u := by
  simp only [after_iff, step_next_iff, exists_eq_left, ticks_succ]

theorem ticked_inp (s : State) : (ticked s).inp = s.nextInput := (tick_cases (tick_eq s)).2.1
theorem ticked_stimulus (s : State) : (ticked s).stimulus = s.stimulus.tail := (tick_cases (tick_eq s)).2.2.1

end Sys2Proof.Machine
end

