-- ==== Sys2Proof/Tests/Slice0.lean ====
section
/-! SUPPORT. The model's own tests: the two checks of WellFormed, the decoding of words written out from 30_encoding.md, single ticks with
the results of 95_test_vectors.md (the vector's name stands in each comment), and for each statement that has hypotheses a state that meets
them. -/

namespace Sys2Proof.Machine

-- One theorem at a time: many kernel evaluations at once would need much memory.
set_option Elab.async false

/-! ### Helpers -/

/-- The reset state with NOW = 1000, from which the vectors of 95_test_vectors.md start. -/
def testRegs : Regs := { State.reset.cur with sys := { State.reset.cur.sys with now := 1000#32 } }

/-- The registers of a test with changes in the zero-cross unit, which is enabled. -/
def heating (f : ZcRegs → ZcRegs) : Regs := { testRegs with zc := f { testRegs.zc with heatEn := true } }

/-- The registers of a test with changes in the PID unit. -/
def sampling (f : PidRegs → PidRegs) : Regs := { testRegs with pid := f testRegs.pid }

/-- The registers of a test with changes in the latches. -/
def latching (f : DbRegs → DbRegs) : Regs := { testRegs with db := f testRegs.db }

/-- The registers of a test with changes in the motion side, and no debounce window. -/
def moving (f : MotRegs → MotRegs) : Regs :=
  { testRegs with db := { testRegs.db with window := 0#32 }, mot := f testRegs.mot }

/-- A machine with registers `r`, about to see the inputs `is`. -/
def testState (r : Regs) (is : List Inputs) : State := { State.reset with cur := r, nxt := r, stimulus := is }

/-- Idle pins with `zc_in` high. -/
def zcHigh : Inputs := { Inputs.idle with zcIn := true }

/-- Idle pins with these button levels. -/
def buttons (b : BitVec 5) : Inputs := { Inputs.idle with btn := b }

/-- Idle pins with a write. -/
def store (a : BitVec 8) (d : Word) : Inputs := Inputs.idle.storing a d

/-- Idle pins with a read. -/
def load (a : BitVec 8) : Inputs := { Inputs.idle with valid := true, addr := a }

/-- Idle pins in reset. -/
def resetInput : Inputs := { Inputs.idle with rst := true }

/-- The registers after one tick on `i`. -/
def regsAfter (r : Regs) (i : Inputs) : Regs := (ticked (testState r [i])).cur

/-- The bus response of one tick on `i`. -/
def respAfter (r : Regs) (i : Inputs) : BusResponse := (ticked (testState r [i])).resp

/-! ### WellFormed -/

theorem test_wellFormed_refuses_mapped_unmapped : wellFormed (.busUnmapped false 0x26#6 0#32) = false := by decide
theorem test_wellFormed_accepts_first_unmapped : wellFormed (.busUnmapped false 0x27#6 0#32) = true := by decide
theorem test_wellFormed_refuses_aligned_misaligned : wellFormed (.busMisaligned true 0x07#6 0#2 0#32) = false := by decide
theorem test_wellFormed_accepts_misaligned : wellFormed (.busMisaligned true 0x07#6 1#2 0#32) = true := by decide

/-! ### Decoding: words written out from 30_encoding.md (V is bit 41, W bit 40, A bits 39:32, D bits 31:0; rst is bit 9, zc_in bit 8, btn bits 7:3,
flag_in bits 2:0) -/

theorem test_decode_reads : ∀ p ∈ ([
     (0x20000000000, .rdCtrl), (0x20400000000, .rdStatus), (0x20800000000, .rdEvent), (0x20C00000000, .rdIrqEn),
     (0x21000000000, .rdNow), (0x21400000000, .rdLastCross), (0x21800000000, .rdPeriod),
     (0x21C00000000, .rdFireDelay), (0x22000000000, .rdDlyCnt), (0x22400000000, .rdGuard),
     (0x22800000000, .rdZcTimeout), (0x22C00000000, .rdZcSilence), (0x23000000000, .rdTemp),
     (0x23400000000, .rdSetpoint), (0x23800000000, .rdSpStep), (0x23C00000000, .rdSpMin), (0x24000000000, .rdSpMax),
     (0x24400000000, .rdQ0), (0x24800000000, .rdQ1), (0x24C00000000, .rdQ2), (0x25000000000, .rdE1),
     (0x25400000000, .rdE2), (0x25800000000, .rdPidOut), (0x25C00000000, .rdPidRaw), (0x26000000000, .rdTs),
     (0x26400000000, .rdTsCnt), (0x26800000000, .rdSampleCount), (0x26C00000000, .rdPidCmd),
     (0x27000000000, .rdDbWindow), (0x27400000000, .rdBtnPol), (0x27800000000, .rdDbHold0),
     (0x27C00000000, .rdDbHold1), (0x28000000000, .rdDbHold2), (0x28400000000, .rdDbHold3),
     (0x28800000000, .rdDbHold4), (0x28C00000000, .rdMotion), (0x29000000000, .rdStepHalf),
     (0x29400000000, .rdStepCnt), (0x29800000000, .rdFlagRx)] : List (Nat × Instr)),
    decodeTableWord 48 p.1 = some p.2 := by decide +kernel

theorem test_decode_writes : ∀ p ∈ ([
     (0x30080000001, .wrCtrl 0x80000001#32), (0x30882000001, .wrEvent 0x82000001#32),
     (0x30C83000001, .wrIrqEn 0x83000001#32), (0x31C87000001, .wrFireDelay 0x87000001#32),
     (0x32489000001, .wrGuard 0x89000001#32), (0x3288A000001, .wrZcTimeout 0x8A000001#32),
     (0x3308C000001, .wrTemp 0x8C000001#32), (0x3348D000001, .wrSetpoint 0x8D000001#32),
     (0x3388E000001, .wrSpStep 0x8E000001#32), (0x33C8F000001, .wrSpMin 0x8F000001#32),
     (0x34090000001, .wrSpMax 0x90000001#32), (0x34491000001, .wrQ0 0x91000001#32),
     (0x34892000001, .wrQ1 0x92000001#32), (0x34C93000001, .wrQ2 0x93000001#32),
     (0x36098000001, .wrTs 0x98000001#32), (0x36C9B000001, .wrPidCmd 0x9B000001#32),
     (0x3709C000001, .wrDbWindow 0x9C000001#32), (0x3749D000001, .wrBtnPol 0x9D000001#32),
     (0x390A4000001, .wrStepHalf 0xA4000001#32)] : List (Nat × Instr)),
    decodeTableWord 48 p.1 = some p.2 := by decide +kernel

theorem test_decode_read_only_writes : ∀ p ∈ ([
     (0x30481000001, .wrRoStatus 0x81000001#32), (0x31084000001, .wrRoNow 0x84000001#32),
     (0x31485000001, .wrRoLastCross 0x85000001#32), (0x31886000001, .wrRoPeriod 0x86000001#32),
     (0x32088000001, .wrRoDlyCnt 0x88000001#32), (0x32C8B000001, .wrRoZcSilence 0x8B000001#32),
     (0x35094000001, .wrRoE1 0x94000001#32), (0x35495000001, .wrRoE2 0x95000001#32),
     (0x35896000001, .wrRoPidOut 0x96000001#32), (0x35C97000001, .wrRoPidRaw 0x97000001#32),
     (0x36499000001, .wrRoTsCnt 0x99000001#32), (0x3689A000001, .wrRoSampleCount 0x9A000001#32),
     (0x3789E000001, .wrRoDbHold0 0x9E000001#32), (0x37C9F000001, .wrRoDbHold1 0x9F000001#32),
     (0x380A0000001, .wrRoDbHold2 0xA0000001#32), (0x384A1000001, .wrRoDbHold3 0xA1000001#32),
     (0x388A2000001, .wrRoDbHold4 0xA2000001#32), (0x38CA3000001, .wrRoMotion 0xA3000001#32),
     (0x394A5000001, .wrRoStepCnt 0xA5000001#32), (0x398A6000001, .wrRoFlagRx 0xA6000001#32)] : List (Nat × Instr)),
    decodeTableWord 48 p.1 = some p.2 := by decide +kernel

theorem test_decode_nop_and_errors : ∀ p ∈ ([
     (0x00000000000, .nop), (0x16CFFFFFFFF, .nop), (0x29C00000000, .busUnmapped false 0x27#6 0#32),
     (0x3FC00000009, .busUnmapped true 0x3F#6 9#32), (0x29B00000000, .busMisaligned false 0x26#6 3#2 0#32),
     (0x3FD00000001, .busMisaligned true 0x3F#6 1#2 1#32), (0x21E00000000, .busMisaligned false 0x07#6 2#2 0#32)] :
    List (Nat × Instr)), decodeTableWord 48 p.1 = some p.2 := by decide +kernel

theorem test_decode_pins : ∀ p ∈ ([
     (0b1000000000, .rst), (0b1111111111, .rst), (0b0111111000, .zcRise), (0b0011110000, .btn0Edge false),
     (0b0011101000, .btn1Edge false), (0b0011011000, .btn2Edge false), (0b0010111000, .btn3Edge false),
     (0b0001111000, .btn4Edge false), (0b0011111101, .flaginSample 5#3)] : List (Nat × Instr)),
    decodeTableWord 16 p.1 = some p.2 := by decide +kernel

theorem test_decode_presents_every_pin : decodePins 0b0110101011#10 =
    [.zcRise, .btn0Edge true, .btn1Edge false, .btn2Edge true, .btn3Edge false, .btn4Edge true, .flaginSample 3#3] := by
  decide +kernel

theorem test_decode_refuses_by_name : decode 0 0 = .error .noEncoding ∧ decode 16 1024 = .error .pinWordTooWide ∧
    decode 48 0x40000000000 = .error .busWordTooWide := ⟨rfl, rfl, rfl⟩

/-! ### The bus -/

/-- 95_test_vectors.md 2.8: every register in the reset state. -/
theorem test_reads_in_reset_state : ([
     0x00#8, 0x04#8, 0x08#8, 0x0C#8, 0x10#8, 0x14#8, 0x18#8, 0x1C#8, 0x20#8, 0x24#8, 0x28#8, 0x2C#8, 0x30#8, 0x34#8,
     0x38#8, 0x3C#8, 0x40#8, 0x44#8, 0x48#8, 0x4C#8, 0x50#8, 0x54#8, 0x58#8, 0x5C#8, 0x60#8, 0x64#8, 0x68#8, 0x6C#8,
     0x70#8, 0x74#8, 0x78#8, 0x7C#8, 0x80#8, 0x84#8, 0x88#8, 0x8C#8, 0x90#8, 0x94#8, 0x98#8].map fun a => (respAfter testRegs (load a)).rdata) = [
     0x0#32, 0x3E0#32, 0x0#32, 0x0#32, 0x3E8#32, 0x0#32, 0x0#32, 0x0#32, 0x0#32, 0x0#32, 0x0#32, 0x0#32, 0x0#32,
     0x0#32, 0x10000#32, 0x80000000#32, 0x7FFFFFFF#32, 0x0#32, 0x0#32, 0x0#32, 0x0#32, 0x0#32, 0x0#32, 0x0#32,
     0x0#32, 0x0#32, 0x0#32, 0x0#32, 0x30D40#32, 0x0#32, 0x0#32, 0x0#32, 0x0#32, 0x0#32, 0x0#32, 0x0#32, 0x1F4#32,
     0x0#32, 0x0#32] := by decide +kernel

/-- R145, R144, R159: each plain store reads back what it keeps. -/
theorem test_plain_stores : ∀ p ∈ ([
     (0x0C#8, .irqEn, 0x1FFF#32), (0x1C#8, .fireDelay, 0xFFFFFFFF#32), (0x24#8, .guard, 0xFFFFFFFF#32),
     (0x28#8, .zcTimeout, 0xFFFFFFFF#32), (0x30#8, .temp, 0xFFFFFFFF#32), (0x34#8, .setpoint, 0xFFFFFFFF#32),
     (0x38#8, .spStep, 0xFFFFFFFF#32), (0x3C#8, .spMin, 0xFFFFFFFF#32), (0x40#8, .spMax, 0xFFFFFFFF#32),
     (0x44#8, .q0, 0xFFFFFFFF#32), (0x48#8, .q1, 0xFFFFFFFF#32), (0x4C#8, .q2, 0xFFFFFFFF#32),
     (0x60#8, .ts, 0xFFFFFFFF#32), (0x70#8, .dbWindow, 0xFFFFFFFF#32), (0x74#8, .btnPol, 0x1F#32),
     (0x90#8, .stepHalf, 0xFFFFFFFF#32)] :
    List (BitVec 8 × Reg × Word)), regRead p.2.1 (regsAfter testRegs (store p.1 0xFFFFFFFF#32)) = p.2.2 := by decide +kernel

/-- R162: a write of a read-only register answers the bus error and the tick is a tick without it. -/
theorem test_read_only_writes : ∀ a ∈ readOnlyAddresses,
    respAfter testRegs (store a 5#32) = { rdata := 0#32, err := true, cause := some .writeRo } ∧
      regsAfter testRegs (store a 5#32) = regsAfter testRegs Inputs.idle := by decide +kernel

/-- R163, R164: unmapped and misaligned, with misalignment tested first. -/
theorem test_address_errors :
    (respAfter testRegs (load 0x9C#8)).cause = some .unmapped ∧ (respAfter testRegs (store 0xFC#8 1#32)).cause = some .unmapped ∧
    (respAfter testRegs (load 0x99#8)).cause = some .misaligned ∧ (respAfter testRegs (store 0x9D#8 1#32)).cause = some .misaligned ∧
    (respAfter testRegs (store 0x06#8 1#32)).cause = some .misaligned := by decide +kernel

/-- R142. -/
theorem test_nop : respAfter testRegs Inputs.idle = { rdata := 0#32, err := false, cause := none } := by decide +kernel

/-- VZ22, VZ23: the kill, in the tick of the write and over a crossing; only `D[0]` counts. -/
theorem test_kill :
    let r := heating fun z => { z with haveEdge := true, dlyCnt := 3, triac := true, zcSilence := 9 }
    (regsAfter r (store 0x00#8 0#32)).zc = testRegs.zc ∧
      (regsAfter r (zcHigh.storing 0x00#8 0xFFFFFFFE#32)).zc = { testRegs.zc with zcPrev := true } := by decide +kernel

/-- VE2: writing 1 clears, writing 0 keeps. -/
theorem test_event_clear :
    (regsAfter { testRegs with sys := { testRegs.sys with event := 0x1FFF } } (store 0x08#8 0xA5#32)).sys.event = 0x1F5A := by
  decide +kernel

/-- VE5: set beats clear. -/
theorem test_event_set_beats_clear :
    let r := sampling fun p => { p with ts := 1 }
    (regsAfter { r with sys := { r.sys with event := 0x20 } } (store 0x08#8 0x20#32)).sys.event = 0x20 := by decide +kernel

/-! ### The zero-cross unit -/

/-- VZ3: the second crossing measures the period and starts the timer. -/
theorem test_crossing_timed :
    let z := (regsAfter (heating fun z => { z with lastCross := 990, haveEdge := true, fireDelay := 4 }) zcHigh).zc
    z.period = 10 ∧ z.periodValid = true ∧ z.lastCross = 1000 ∧ z.dlyCnt = 4 ∧ z.triac = true := by decide +kernel

/-- VZ8: a crossing during a running delay, into the clamp branch. -/
theorem test_crossing_clamped :
    let r := regsAfter (heating fun z =>
      { z with
        lastCross := 995, period := 10, haveEdge := true, periodValid := true, fireDelay := 8, dlyCnt := 3, triac := true }) zcHigh
    r.sys.event = 0xD ∧ r.zc.period = 5 ∧ r.zc.fireDelay = 5 ∧ r.zc.dlyCnt = 0 ∧ r.zc.triac = true := by decide +kernel

/-- VZ13: `SYNC_LOST` holds the unit off. -/
theorem test_zc_off :
    let r := heating id
    let u := regsAfter { r with sys := { r.sys with event := 0x10 } } zcHigh
    u.zc = { r.zc with zcPrev := true } ∧ u.sys.event = 0x10 := by decide +kernel

/-- VZ15. -/
theorem test_dly_count :
    let z := (regsAfter (heating fun z => { z with haveEdge := true, dlyCnt := 3, triac := true }) Inputs.idle).zc
    z.dlyCnt = 2 ∧ z.triac = true ∧ z.zcSilence = 1 := by decide +kernel

/-- VZ16. -/
theorem test_dly_expire :
    let r := regsAfter (heating fun z => { z with haveEdge := true, dlyCnt := 1, triac := true }) Inputs.idle
    r.zc.dlyCnt = 0 ∧ r.zc.triac = false ∧ r.sys.event = 0x2 := by decide +kernel

/-- VZ20: the silence counter saturates. -/
theorem test_wdg_count :
    (regsAfter (heating fun z => { z with zcSilence := 4294967295 }) Inputs.idle).zc.zcSilence = 4294967295 := by decide +kernel

/-- VZ18: the watchdog overrides the decrement. -/
theorem test_wdg_fire :
    let r := regsAfter (heating fun z => { z with haveEdge := true, dlyCnt := 5, triac := true, zcTimeout := 25, zcSilence := 24 })
      Inputs.idle
    r.sys.event = 0x10 ∧ r.zc.haveEdge = false ∧ r.zc.dlyCnt = 0 ∧ r.zc.triac = false ∧ r.zc.zcSilence = 25 := by decide +kernel

/-- VZ25: the crossing reads the old `FIRE_DELAY`, and the host's value is the one that stays. -/
theorem test_host_beats_clamp :
    let z := (regsAfter (heating fun z =>
      { z with lastCross := 990, period := 10, haveEdge := true, periodValid := true, fireDelay := 12 }) (zcHigh.storing 0x1C#8 3#32)).zc
    z.fireDelay = 3 ∧ z.dlyCnt = 0 ∧ z.triac = true := by decide +kernel

/-! ### The PID unit -/

/-- VP4: the floor of −1/65536 is −1. -/
theorem test_pid_command_floor :
    let r := regsAfter (sampling fun p => { p with temp := 1, q0 := 1 }) (store 0x6C#8 1#32)
    r.pid.pidRaw = 0xFFFFFFFF ∧ r.pid.pidOut = 0 ∧ r.sys.event = 0x60 := by decide +kernel

/-- Program P2, sample 3: all three terms, 90 + 30 − 40 + 7.5 = 87.5. -/
theorem test_pid_command_three_terms :
    let r := sampling fun p =>
      { p with
        temp := 0x640000, setpoint := 0x8C0000, q0 := 0xC000, q1 := 0xFFFF8000, q2 := 0x1000, e1 := 0x500000, e2 := 0x780000,
        pidOut := 0x5A0000 }
    let u := regsAfter { r with zc := { r.zc with period := 8333, guard := 333 } } (store 0x6C#8 1#32)
    u.pid.pidOut = 0x578000 ∧ u.zc.fireDelay = 7000 ∧ u.pid.e1 = 0x280000 ∧ u.pid.e2 = 0x500000 := by decide +kernel

/-- VP21. -/
theorem test_ts_count : (regsAfter (sampling fun p => { p with ts := 4, tsCnt := 2 }) Inputs.idle).pid.tsCnt = 3 := by
  decide +kernel

/-- VP27: `TS` lowered below the running count. -/
theorem test_ts_tick :
    let p := (regsAfter (sampling fun p => { p with ts := 2, tsCnt := 5 }) Inputs.idle).pid
    p.tsCnt = 0 ∧ p.sampleCount = 1 := by decide +kernel

/-- VP29: the sample uses the old `TEMP`. -/
theorem test_pid_sample :
    let p := (regsAfter (sampling fun p => { p with temp := 0x140000, setpoint := 0x8C0000, q0 := 0x8000, ts := 4, tsCnt := 3 })
      (store 0x30#8 0x640000#32)).pid
    p.temp = 0x640000 ∧ p.e1 = 0x780000 ∧ p.pidOut = 0x3C0000 := by decide +kernel

/-! ### The latches and the setpoint -/

/-- VD19: all five edges in one tick, in index order. -/
theorem test_all_buttons :
    let r := regsAfter testRegs (buttons 0b00000)
    r.sys.event = 0x1F00 ∧ motionRow r.mot = ⟨.none, true, false, true, 0b100⟩ ∧ r.pid.setpoint = 0 ∧
      r.db.hold0 = 199999 ∧ r.db.hold4 = 199999 := by decide +kernel

/-- VD2: one tick too early, discarded; the counter still counts. -/
theorem test_edge_discarded :
    let r := regsAfter (latching fun d => { d with hold3 := 1 }) (buttons 0b10111)
    r.pid.setpoint = 0 ∧ r.sys.event = 0 ∧ r.db.hold3 = 0 := by decide +kernel

/-- VD13: no wrap at the top of the range. -/
theorem test_setpoint_up : (regsAfter (sampling fun p => { p with setpoint := 0x7FFF0000 }) (buttons 0b10111)).pid.setpoint =
    0x7FFFFFFF := by decide +kernel

/-- VD14: no wrap at the bottom. -/
theorem test_setpoint_down : (regsAfter (sampling fun p => { p with setpoint := 0x80000000 }) (buttons 0b01111)).pid.setpoint =
    0x80000000 := by decide +kernel

/-- VD7: polarity 1, the rising edge is the event. -/
theorem test_polarity :
    (regsAfter (latching fun d => { d with prev := 0x17, pol := 0x8 }) Inputs.idle).sys.event = 0x800 := by decide +kernel

/-- VD11 for each hold-off. -/
theorem test_hold_dec :
    let d := (regsAfter (latching fun d => { d with hold0 := 5, hold1 := 6, hold2 := 7, hold3 := 8, hold4 := 0 }) Inputs.idle).db
    (d.hold0, d.hold1, d.hold2, d.hold3, d.hold4) = (4#32, 5#32, 6#32, 7#32, 0#32) := by decide +kernel

/-! ### The motion side -/

/-- VM7. -/
theorem test_right : motionRow (regsAfter (moving fun m => { m with dir := .left, motEn := true, flags := 0b010 })
    (buttons 0b11110)).mot = ⟨.right, false, true, true, 0b001⟩ := by decide +kernel

/-- VM5. -/
theorem test_left : motionRow (regsAfter (moving fun m => { m with dir := .right, motDir := true, motEn := true, flags := 0b001 })
    (buttons 0b11101)).mot = ⟨.left, false, false, true, 0b010⟩ := by decide +kernel

/-- VM12: leaving pause keeps the flags. -/
theorem test_unpause : motionRow (regsAfter (moving fun m =>
    { m with paused := true, motDir := true, motEn := true, flags := 0b100 }) (buttons 0b11011)).mot = ⟨.none, false, true, true, 0b100⟩ := by decide +kernel

/-- VS1, VS15: a pulse starts from `S_t`, also in the tick of the PAUSE edge. -/
theorem test_step_rise :
    let m := (regsAfter (moving fun m => { m with dir := .right, motDir := true, motEn := true, flags := 0b001 }) (buttons 0b11011)).mot
    m.step = true ∧ m.stepCnt = 499 ∧ m.paused = true := by decide +kernel

/-- VS2. -/
theorem test_step_count : (regsAfter (moving fun m => { m with step := true, stepCnt := 3 }) Inputs.idle).mot.stepCnt = 2 := by
  decide +kernel

/-- VS7, VS10. -/
theorem test_step_fall :
    let m := (regsAfter (moving fun m => { m with step := true }) Inputs.idle).mot
    let k := (regsAfter (moving fun m => { m with step := true, stepHalf := 0 }) Inputs.idle).mot
    m.step = false ∧ m.stepCnt = 499 ∧ k.step = false ∧ k.stepCnt = 0 := by decide +kernel

/-- VS5, VS8, VS9. -/
theorem test_step_idle :
    (regsAfter testRegs Inputs.idle).mot = testRegs.mot ∧
      (regsAfter (moving fun m => { m with paused := true }) Inputs.idle).mot.step = false ∧
      (regsAfter (moving fun m => { m with dir := .right, stepHalf := 0 }) Inputs.idle).mot.step = false := by decide +kernel

/-- VF1 to VF8: every pattern of the flag lines. -/
theorem test_flag_receiver : ∀ p ∈ ([(0, .left), (1, .right), (2, .left), (3, .left), (4, .paused), (5, .left), (6, .left), (7, .left)] :
    List (BitVec 3 × LastDir)),
    (regsAfter { testRegs with rx := { flagInS := 0, lastDir := .left } } { Inputs.idle with flagIn := p.1 }).rx =
      { flagInS := p.1, lastDir := p.2 } := by decide +kernel

/-! ### Time and reset -/

/-- R31: `NOW` wraps. -/
theorem test_now_wraps :
    (regsAfter { testRegs with sys := { testRegs.sys with now := 4294967295 } } Inputs.idle).sys.now = 0 := by decide +kernel

/-- R370: a reset tick drops a running pulse and captures the pins. -/
theorem test_reset :
    regsAfter (heating fun z => { z with triac := true, dlyCnt := 5 }) { resetInput with zcIn := true, btn := 7, flagIn := 4 } =
      resetImage true 7 4 := by decide +kernel

/-! ### Witnesses: for each statement with hypotheses a state and operands that meet them, at the boundaries of its clauses -/

/-- A crossing with measured period 10 and `FIRE_DELAY = d`. -/
def crossingState (d : Word) : State :=
  testState (heating fun z =>
    { z with lastCross := 990, period := 10, haveEdge := true, periodValid := true, fireDelay := d }) [zcHigh]

/-- The unit on, quiet, with timer `n`, silence 4 and timeout `w`. -/
def quietState (n w : Word) : State :=
  testState (heating fun z => { z with triac := true, dlyCnt := n, haveEdge := true, zcSilence := 4, zcTimeout := w }) [Inputs.idle]

/-- Every button pressed, none in hold-off. -/
def pressedState (w : Word) : State :=
  testState { testRegs with db := { testRegs.db with window := w } } [buttons 0b00000, buttons 0b11111, buttons 0b00000]

theorem witness_EncodedTransactionsDecodeBack :
    wellFormed (.busUnmapped true 0x27#6 7#32) = true ∧ encode (.busUnmapped true 0x27#6 7#32) = .bus 0x39C00000007#42 ∧
    wellFormed (.busMisaligned false 0x3F#6 3#2 0#32) = true ∧
    encode (.busMisaligned false 0x3F#6 3#2 0#32) = .bus 0x2FF00000000#42 ∧
    wellFormed (.wrQ0 5#32) = true ∧ encode (.wrQ0 5#32) = .bus 0x34400000005#42 := by decide +kernel

theorem witness_DecodeMapIsTotal :
    (0x99#8).extractLsb' 0 2 ≠ 0#2 ∧ (0xFF#8).extractLsb' 0 2 ≠ 0#2 ∧
    ((0x9C#8).extractLsb' 0 2 = 0#2 ∧ 0x9C#8 ≤ 0x9C#8) ∧ ((0xFC#8).extractLsb' 0 2 = 0#2 ∧ 0x9C#8 ≤ 0xFC#8) ∧
    ¬0x9C#8 ≤ 0x98#8 ∧ 0x98#8 = BitVec.ofNat 8 (4 * 38) := by decide +kernel

theorem witness_DecodedWordsEncodeBack :
    (0x30000000000#42).getLsbD 41 = true ∧ (0x30000000000#42).getLsbD 40 = true ∧
    (0x20100000000#42).extractLsb' 32 2 ≠ 0#2 ∧ 0x9C#8 ≤ (0x29C00000000#42).extractLsb' 32 8 := by decide +kernel

theorem witness_PinVectorsPresentTheirOperations :
    (0x200#10).getLsbD 9 = true ∧ (0x0F8#10).getLsbD 9 = false ∧ encode (.btn4Edge false) = .pins 0b0001111000#10 ∧
    encode (.btn4Edge true) = .pins 0b0011111000#10 ∧ encode (.flaginSample 6#3) = .pins 0b0011111110#10 := by decide +kernel

theorem witness_FetchedWordIsScheduled :
    decodeTableWord 48 0x36C00000001 = some (.wrPidCmd 1#32) ∧ decodeTableWord 16 0x3F8 = some .rst ∧
    decodeTableWord 10 0x1F8 = some .zcRise := by decide +kernel

theorem witness_StepAlwaysAnswers :
    (testState testRegs [zcHigh, store 0 1]).stimulus = zcHigh :: [store 0 1] ∧ State.reset.stimulus = [] := ⟨rfl, rfl⟩

theorem witness_ResponseComesFromTheStateBeforeTheTick :
    step (testState testRegs [load 0x10#8]) = .next (ticked (testState testRegs [load 0x10#8])) ∧
    exec .rdNow { State.reset with cur := testRegs } = .next { State.reset with cur := testRegs, resp := ⟨1000#32, false, none⟩ } ∧
    (ticked (testState testRegs [load 0x10#8])).resp = ⟨1000#32, false, none⟩ :=
  ⟨step_eq_ticked _, rfl, by decide +kernel⟩

theorem witness_ResetTickGivesTheResetState : (testState (heating id) [resetInput]).nextInput.rst = true := rfl

theorem witness_AddressErrorsRaiseTheBusError :
    ((0x9C#8).extractLsb' 0 2 = 0#2 ∧ 0x9C#8 ≤ 0x9C#8) ∧ (0x9D#8).extractLsb' 0 2 ≠ 0#2 ∧ (0x03#8).extractLsb' 0 2 ≠ 0#2 := by
  decide +kernel

theorem witness_CrossingOperation :
    let s (d : Word) : State := { crossingState d with inp := zcHigh }
    Crosses (s 9).cur (s 9).inp ∧ (s 9).cur.zc.fireDelay.toNat < (crossedPeriod (s 9).cur).toNat ∧
    Crosses (s 10).cur (s 10).inp ∧ ¬(s 10).cur.zc.fireDelay.toNat < (crossedPeriod (s 10).cur).toNat ∧
    ¬Crosses State.reset.cur State.reset.inp := by decide +kernel

theorem witness_SampleOperations :
    Samples (sampling fun p => { p with ts := 4, tsCnt := 3 }) Inputs.idle ∧
    ¬Samples (sampling fun p => { p with ts := 4, tsCnt := 2 }) Inputs.idle ∧
    Samples testRegs (store 0x6C#8 1#32) ∧ ¬Samples testRegs (store 0x6C#8 0xFFFFFFFE#32) ∧
    resetInput.rst = true ∧ Inputs.idle.rst = false ∧ (1#32).getLsbD 0 = true ∧ (2#32).getLsbD 0 = false := by decide +kernel

theorem witness_NowCountsTicks :
    (testState testRegs []).nextInput.rst = false ∧
      ∀ j < 2, ∀ u, After j (testState testRegs []) u → u.nextInput.rst = false := by
  refine ⟨rfl, fun j hj u h => ?_⟩
  rw [after_iff] at h
  subst h
  interval_cases j <;> decide +kernel

/-- The unit off in each of its three ways: disabled, out of sync, killed in this tick. -/
theorem witness_UnitOffTick :
    let off := testState testRegs [zcHigh]
    let lost := testState { heating id with sys := { testRegs.sys with event := 0x10 } } [zcHigh]
    let killed := testState (heating id) [zcHigh.storing 0x00#8 0#32]
    (off.nextInput.rst = false ∧ ¬UnitOn off.cur off.nextInput) ∧ (lost.nextInput.rst = false ∧ ¬UnitOn lost.cur lost.nextInput) ∧
    (killed.nextInput.rst = false ∧ ¬UnitOn killed.cur killed.nextInput) ∧
    ¬Samples off.cur off.nextInput ∧ ¬HostWrites off.nextInput 0x1C := by decide +kernel

theorem witness_CrossingTick :
    let s := crossingState 9
    let u := crossingState 10
    (Crosses s.cur s.nextInput ∧ s.cur.zc.fireDelay.toNat < (crossedPeriod s.cur).toNat) ∧
    (Crosses u.cur u.nextInput ∧ (crossedPeriod u.cur).toNat ≤ u.cur.zc.fireDelay.toNat) ∧
    ¬Samples u.cur u.nextInput ∧ ¬HostWrites u.nextInput 0x1C := by decide +kernel

/-- The silence reaches 5: a timeout of 5 fires, 6 and 0 do not. -/
theorem witness_QuietTick :
    let s (w : Word) := quietState 1 w
    (Quiet (s 5).cur (s 5).nextInput ∧ SilenceTooLong (s 5).cur) ∧ (Quiet (s 6).cur (s 6).nextInput ∧ ¬SilenceTooLong (s 6).cur) ∧
    (Quiet (s 0).cur (s 0).nextInput ∧ ¬SilenceTooLong (s 0).cur) := by decide +kernel

theorem witness_FireDelayHasThreeWriters :
    let host := testState testRegs [store 0x1C#8 3#32]
    let sample := testState testRegs [store 0x6C#8 1#32]
    let clamp := crossingState 10
    (host.nextInput.rst = false ∧ HostWrites host.nextInput 0x1C) ∧
    (sample.nextInput.rst = false ∧ ¬HostWrites sample.nextInput 0x1C ∧ Samples sample.cur sample.nextInput) ∧
    (clamp.nextInput.rst = false ∧ ¬Samples clamp.cur clamp.nextInput ∧ Crosses clamp.cur clamp.nextInput) := by decide +kernel

theorem witness_EventUpdate :
    (pressedState 5).nextInput.rst = false ∧
    eventKept { testRegs with sys := { testRegs.sys with event := 3 } } (store 0x08#8 1#32) 1 = true ∧
    eventKept { testRegs with sys := { testRegs.sys with event := 3 } } (store 0x08#8 1#32) 0 = false := by decide +kernel

theorem witness_SampleTickOfThePidUnit :
    let s := testState (sampling fun p => { p with ts := 4, tsCnt := 3 }) [Inputs.idle]
    let u := testState (sampling fun p => { p with ts := 4, tsCnt := 2 }) [Inputs.idle]
    (s.nextInput.rst = false ∧ Samples s.cur s.nextInput) ∧ u.nextInput.rst = false ∧ ¬Samples u.cur u.nextInput := by decide +kernel

/-- A sample inside the range, at 0 and at 100.0. -/
theorem witness_WholeSampleProperty :
    let s (u : Word) := testState (sampling fun p => { p with ts := 1, pidOut := u }) [Inputs.idle]
    (Samples (s 0).cur (s 0).nextInput ∧ 0 ≤ rawOf (s 0).cur.pid ∧ rawOf (s 0).cur.pid ≤ 6553600) ∧
    (Samples (s 6553600).cur (s 6553600).nextInput ∧ 0 ≤ rawOf (s 6553600).cur.pid ∧ rawOf (s 6553600).cur.pid ≤ 6553600) ∧
    ¬HostWrites (s 0).nextInput 0x1C := by decide +kernel

theorem witness_LatchTick :
    let s := pressedState 5
    s.nextInput.rst = false ∧ Accepts s.cur s.nextInput .right ∧ Accepts s.cur s.nextInput .spDown ∧
      ¬Accepts testRegs Inputs.idle .right := by decide +kernel

theorem witness_SetpointTick :
    let s := pressedState 5
    s.nextInput.rst = false ∧ Accepts s.cur s.nextInput .spUp ∧ Accepts s.cur s.nextInput .spDown := by decide +kernel

theorem witness_MotionTick :
    let s := pressedState 5
    s.nextInput.rst = false ∧ Accepts s.cur s.nextInput .right ∧ Accepts s.cur s.nextInput .left ∧
      Accepts s.cur s.nextInput .pause := by decide +kernel

/-- One state for each row of the table, each with one input for each column: no event, RIGHT, LEFT, PAUSE. -/
theorem witness_MotionTransitionTable :
    let columns := [[false, false, false], [true, false, false], [false, true, false], [false, false, true]]
    ([moving id, moving fun m => { m with dir := .right, motDir := true, motEn := true, flags := 1 },
      moving fun m => { m with dir := .left, motEn := true, flags := 2 }, moving fun m => { m with paused := true, flags := 4 }].map
        fun r => (motionRow r.mot, [0b11111#5, 0b11110#5, 0b11101#5, 0b11011#5].map fun b =>
          [Btn.right, .left, .pause].map fun k => decide (Accepts r (testState r [buttons b]).nextInput k))) =
    [(⟨.none, false, false, false, 0b000⟩, columns), (⟨.right, false, true, true, 0b001⟩, columns),
      (⟨.left, false, false, true, 0b010⟩, columns), (⟨.none, true, false, false, 0b100⟩, columns)] ∧
    (testState (moving id) [buttons 0b11110]).nextInput.rst = false := by decide +kernel

theorem witness_PulseTick : (testState testRegs []).nextInput.rst = false ∧ (pressedState 0).nextInput.rst = false := ⟨rfl, rfl⟩

theorem witness_FlagReceiverTick : (testState testRegs [{ Inputs.idle with flagIn := 7 }]).nextInput.rst = false := rfl

theorem witness_HostParametersChangeOnlyByTheHost :
    let s := testState testRegs [store 0x90#8 0#32]
    s.nextInput.rst = false ∧ HostWrites s.nextInput 0x90 := by decide +kernel

theorem witness_PlainStoreChangesOneRegister : zcHigh.rst = false ∧ (buttons 0).rst = false := ⟨rfl, rfl⟩

theorem witness_KillClearsTheGateAtOnce :
    zcHigh.rst = false ∧ (0xFFFFFFFE#32).getLsbD 0 = false ∧ (1#32).getLsbD 0 = true ∧ testRegs.zc.heatEn = false := by decide +kernel

theorem witness_ReadsChangeNothing : 0 < 39 ∧ 38 < 39 := by decide

/-- Each cause, at the first address it holds for, and a transaction that raises none. -/
theorem witness_BusErrorChangesNoState :
    Misaligned (load 0x9D#8) ∧ Unmapped (load 0x9C#8) ∧ WritesReadOnly (store 0x98#8 0#32) ∧
      ¬(Misaligned (load 0x98#8) ∨ Unmapped (load 0x98#8) ∨ WritesReadOnly (load 0x98#8)) := by decide +kernel

/-- A state with the gate on, the timer at its bound and the motor driving, and its next state. -/
theorem witness_InvariantIsKeptByEveryStep :
    let r : Regs := { heating fun z => { z with triac := true, dlyCnt := 10, period := 10 } with
      mot := { testRegs.mot with dir := .right, motDir := true, motEn := true, flags := 1 } }
    Inv r ∧ step (testState r [pressedState 5 |>.nextInput]) = .next (ticked (testState r [pressedState 5 |>.nextInput])) := by
  refine ⟨⟨?_, ?_, ?_, ?_, ?_, ?_, ?_⟩, step_eq_ticked _⟩ <;> decide +kernel

theorem witness_FlagsNeverReturnToZero :
    let s := testState (moving fun m => { m with dir := .left, motEn := true, flags := 2 }) [buttons 0b11110]
    s.nextInput.rst = false ∧ s.cur.mot.flags ≠ 0 ∧ s.cur.mot.motEn = true ∧ (ticked s).cur.mot.flags ≠ s.cur.mot.flags := by
  decide +kernel

/-- A delay of 2 ticks after a crossing, the pins then idle; and a delay of 0. -/
theorem witness_GateStaysAssertedForFireDelayTicks :
    let s := crossingState 2
    (Crosses s.cur s.nextInput ∧ s.cur.zc.fireDelay.toNat = 2 ∧ 2 < (crossedPeriod s.cur).toNat ∧
      ∀ (k : Nat) (u : State), 1 ≤ k → k ≤ 2 → After k s u →
        u.nextInput.rst = false ∧ ¬Crosses u.cur u.nextInput ∧ ¬Killed u.nextInput ∧ ¬SilenceTooLong u.cur) ∧
    Crosses (crossingState 0).cur (crossingState 0).nextInput ∧ 0 < (crossedPeriod (crossingState 0).cur).toNat := by
  refine ⟨⟨by decide +kernel, by decide +kernel, by decide +kernel, fun k u h1 h2 h => ?_⟩, by decide +kernel, by decide +kernel⟩
  rw [after_iff] at h
  subst h
  interval_cases k <;> decide +kernel

/-- A press, a release and a press two ticks after the first, with a window of 2 (accepted again) and of 3 (discarded). -/
theorem witness_HoldOffIsTheDebounceWindow :
    ∀ w ∈ [2#32, 3#32],
      Accepts (pressedState w).cur (pressedState w).nextInput .left ∧
      (∀ (j : Nat) (u : State), 1 ≤ j → j < 2 → After j (pressedState w) u →
        u.nextInput.rst = false ∧ ¬Accepts u.cur u.nextInput .left) ∧
      (ticks 2 (pressedState w)).nextInput.rst = false ∧
      RawEdge (ticks 2 (pressedState w)).cur (ticks 2 (pressedState w)).nextInput (btnIndex .left) := by
  intro w hw
  have : w = 2#32 ∨ w = 3#32 := by simpa using hw
  rcases this with rfl | rfl <;>
  · refine ⟨by decide +kernel, fun j u h1 h2 h => ?_, by decide +kernel, by decide +kernel⟩
    rw [after_iff] at h
    subst h
    interval_cases j
    decide +kernel

/-- A pulse about to begin with `STEP_HALF = 1`, and one about to end with `STEP_HALF = 0`, the pins idle. -/
theorem witness_PulsesHaveTheirFullLength :
    let s := testState (moving fun m => { m with dir := .right, stepHalf := 1 }) []
    let u := testState (moving fun m => { m with step := true, stepHalf := 0 }) []
    (s.cur.mot.stepCnt = 0 ∧ s.cur.mot.step = false ∧ s.cur.mot.dir ≠ .none ∧ s.cur.mot.paused = false ∧ s.cur.mot.stepHalf ≠ 0 ∧
      ∀ (k : Nat) (v : State), k ≤ 1 → After k s v → v.nextInput.rst = false) ∧
    (u.cur.mot.stepCnt = 0 ∧ u.cur.mot.step = true ∧
      ∀ (k : Nat) (v : State), k ≤ max 0 1 → After k u v → v.nextInput.rst = false) ∧
    step s = .next (ticked s) ∧ s.cur.mot.step = false ∧ (ticked s).cur.mot.step = true := by
  refine ⟨⟨rfl, rfl, by decide, rfl, by decide, fun k v hk h => ?_⟩, ⟨rfl, rfl, fun k v hk h => ?_⟩, step_eq_ticked _, rfl,
    by decide +kernel⟩
  · rw [after_iff] at h
    subst h
    interval_cases k <;> decide +kernel
  · rw [after_iff] at h
    subst h
    rw [Nat.max_eq_right (Nat.zero_le 1)] at hk
    interval_cases k <;> decide +kernel

/-- Two states with one motion side and different heat sides, and two with one heat side and different motion sides. -/
theorem witness_SidesDoNotInterfere :
    let s := testState testRegs [buttons 0b11110]
    let hot := testState (heating fun z => { z with triac := true }) [{ buttons 0b01110 with zcIn := true }]
    let moved := testState { testRegs with mot := { testRegs.mot with dir := .left, flags := 2 } } [buttons 0b11011]
    (step s = .next (ticked s) ∧ step hot = .next (ticked hot) ∧ step moved = .next (ticked moved)) ∧
    (SameBus s.nextInput hot.nextInput ∧ SameMotionSide s.cur hot.cur ∧
      ∀ k < 3, s.nextInput.btn.getLsbD k = hot.nextInput.btn.getLsbD k) ∧
    SameBus s.nextInput moved.nextInput ∧ SameHeatSide s.cur moved.cur ∧ s.nextInput.zcIn = moved.nextInput.zcIn ∧
      (∀ k, 3 ≤ k → k < 5 → s.nextInput.btn.getLsbD k = moved.nextInput.btn.getLsbD k) ∧
      s.nextInput.flagIn = moved.nextInput.flagIn := by
  refine ⟨⟨step_eq_ticked _, step_eq_ticked _, step_eq_ticked _⟩, ⟨⟨rfl, rfl, rfl, rfl, rfl⟩, ⟨rfl, rfl, rfl, rfl, rfl, ?_⟩, ?_⟩,
    ⟨rfl, rfl, rfl, rfl, rfl⟩, ⟨rfl, rfl, rfl, rfl, rfl, rfl, rfl, ?_, ?_⟩, rfl, ?_, rfl⟩
  · exact fun k _ => ⟨rfl, rfl⟩
  · intro k hk; interval_cases k <;> rfl
  · exact fun k _ _ => ⟨rfl, rfl⟩
  · exact fun k _ _ => rfl
  · intro k h1 h2; interval_cases k <;> rfl


end Sys2Proof.Machine
end

/-! PROOF. The reset tick (R370), which the group lemmas of Laws/Tick.lean leave out. -/

namespace Sys2Proof.Machine

/-- Every format I operation is void in a reset tick (R370): each one's condition is false there, and `STEP.IDLE` has nothing to do. -/
theorem effect_internalOps_of_rst {u : State} (h : u.inp.rst = true) {i : Instr} (hi : i ∈ internalOps) :
    effect i u = u := by
  have hoff : unitOff u = false := by simp [unitOff, h]
  have hquiet : quiet u = false := by simp [quiet, h]
  have hsample : sampleDue u = false := by simp [sampleDue, h]
  fin_cases hi <;>
    simp [effect, exec, execNowTick, execZcOff, execDlyCount, execDlyExpire, execWdgCount, execWdgFire, execTsCount,
      execTsTick, execPidSample, execHold0Dec, execHold1Dec, execHold2Dec, execHold3Dec, execHold4Dec, holdDec,
      execStepCount, execStepFall, execStepRise, execStepIdle, h, hoff, hquiet, hsample]

theorem effects_of_void {u : State} {is : List Instr} (h : ∀ i ∈ is, effect i u = u) : effects is u = u := by
  induction is with
  | nil => rfl
  | cons i is ih => rw [effects_cons, h i (by simp), ih fun j hj => h j (by simp [hj])]

/-- A reset tick gives the reset state with this tick's pins captured, whatever the state was (R370, R372). -/
theorem ticked_cur_of_rst {s : State} (h : s.nextInput.rst = true) :
    (ticked s).cur = Regs.resetWith s.nextInput.zcIn s.nextInput.btn s.nextInput.flagIn := by
  have hpins : decodePins s.nextInput.pv = [.rst] := by rw [decodePins, pvRst_pv, h, if_pos rfl]
  have hrst : effect .rst (beginTick s) = { beginTick s with
      nxt := Regs.resetWith s.nextInput.zcIn s.nextInput.btn s.nextInput.flagIn, evSet := 0#13 } := by
    simp [effect, exec, execRst, h]
  have hvoid : effects internalOps (effect .rst (beginTick s)) = effect .rst (beginTick s) :=
    effects_of_void fun _ hi => effect_internalOps_of_rst (by rw [(sameTick_effect _ _).inp]; exact h) hi
  simp only [ticked, schedule, hpins, effects_append, effects_cons, effects_nil]
  rw [hvoid, effect_bus, (sameTick_effect _ _).inp, beginTick_inp, h, Bool.not_true, State.when_false, hrst]
  simp [commitTick, mergeEvents, Regs.resetWith]

end Sys2Proof.Machine

/-! PROOF. What one latch does in a tick without reset, said for every button at once: the hold-off, polarity and sample after the tick depend
on that latch, `DB_WINDOW`, the button's level and the transaction alone (R290, R319). -/

namespace Sys2Proof.Machine

theorem holdOf_acceptPart (s : State) (b c : Btn) (l : Bool) (d : DbRegs) :
    holdOf b (acceptPart s c l d) =
      if b = c ∧ accepted s c l = true then decToZero s.cur.db.window else holdOf b d := by
  unfold acceptPart
  by_cases hb : b = c <;> cases ha : accepted s c l <;> simp [hb, holdOf_setHold_other]

theorem holdOf_decPart (s : State) (b c : Btn) (d : DbRegs) :
    holdOf b (decPart s c d) =
      if b = c ∧ s.inp.rst = false ∧ accepted s c (btnLevel s.inp c) = false then decToZero (holdOf c s.cur.db)
      else holdOf b d := by
  unfold decPart
  by_cases hb : b = c <;> cases hr : s.inp.rst <;> cases ha : accepted s c (btnLevel s.inp c) <;>
    simp [hb, holdOf_setHold_other]

/-- The registers of the latches that no unit writes. -/
theorem acceptPart_keeps (s : State) (b : Btn) (l : Bool) (d : DbRegs) :
    (acceptPart s b l d).window = d.window ∧ (acceptPart s b l d).pol = d.pol ∧ (acceptPart s b l d).prev = d.prev := by
  unfold acceptPart
  split <;> simp

theorem decPart_keeps (s : State) (b : Btn) (d : DbRegs) :
    (decPart s b d).window = d.window ∧ (decPart s b d).pol = d.pol ∧ (decPart s b d).prev = d.prev := by
  unfold decPart
  split <;> simp

/-- The units leave `DB_WINDOW` and `BTN_POL` and sample the buttons (R62, R145). -/
theorem unitsRun_db_keeps (s : State) :
    (unitsRun s).nxt.db.window = s.cur.db.window ∧ (unitsRun s).nxt.db.pol = s.cur.db.pol ∧
      (unitsRun s).nxt.db.prev = s.nextInput.btn := by
  simp [unitsRun_db, acceptPart_keeps, decPart_keeps]

/-- The latches after the units, every edge at the level of its own button. -/
theorem unitsRun_db_btnLevel (s : State) : (unitsRun s).nxt.db =
    (let b := beginTick s
    let l := btnLevel s.nextInput
    decPart b .spDown <| decPart b .spUp <| decPart b .pause <| decPart b .left <| decPart b .right <|
      acceptPart b .spDown (l .spDown) <| acceptPart b .spUp (l .spUp) <| acceptPart b .pause (l .pause) <|
      acceptPart b .left (l .left) <| acceptPart b .right (l .right) { s.cur.db with prev := s.nextInput.btn }) :=
  unitsRun_db s

/-- A latch's hold-off after the units: the window on an accepted edge, else one less (R293, R295). -/
theorem unitsRun_holdOf {s : State} (hr : s.nextInput.rst = false) (b : Btn) :
    holdOf b (unitsRun s).nxt.db =
      decToZero (if accepted (beginTick s) b (btnLevel s.nextInput b) then s.cur.db.window else holdOf b s.cur.db) := by
  rw [unitsRun_db_btnLevel]
  cases ha : accepted (beginTick s) b (btnLevel s.nextInput b) <;> cases b <;>
    simp [holdOf_acceptPart, holdOf_decPart, hr, ha]

theorem holdOf_hostDb (i : Inputs) (b : Btn) (d : DbRegs) : holdOf b (hostDb i d) = holdOf b d := by
  unfold hostDb
  cases b <;> split <;> split <;> rfl

theorem hostDb_window (i : Inputs) (d : DbRegs) :
    (hostDb i d).window = if writesTo i 0x70#8 then i.wdata else d.window := by
  unfold hostDb
  split <;> split <;> rfl

theorem hostDb_pol (i : Inputs) (d : DbRegs) :
    (hostDb i d).pol = if writesTo i 0x74#8 then i.wdata.extractLsb' 0 5 else d.pol := by
  unfold hostDb
  split <;> split <;> rfl

theorem hostDb_prev (i : Inputs) (d : DbRegs) : (hostDb i d).prev = d.prev := by
  unfold hostDb
  split <;> split <;> rfl

/-- The latch of button `b` agrees. -/
structure SameLatch (b : Btn) (d e : DbRegs) : Prop where
  hold : holdOf b d = holdOf b e
  pol : d.pol.getLsbD (btnIndex b) = e.pol.getLsbD (btnIndex b)
  prev : d.prev.getLsbD (btnIndex b) = e.prev.getLsbD (btnIndex b)

theorem SameLatch.accepted {b : Btn} {s s' : State} (h : SameLatch b s.cur.db s'.cur.db) (hr : s.inp.rst = s'.inp.rst)
    (p : Bool) : accepted s b p = accepted s' b p := by
  rw [Machine.accepted, Machine.accepted, hr, h.hold, h.pol, h.prev]

theorem SameBus.writesTo {i j : Inputs} (h : SameBus i j) (a : BitVec 8) : writesTo i a = writesTo j a := by
  obtain ⟨-, hv, hw, ha, -⟩ := h
  rw [Machine.writesTo, Machine.writesTo, hv, hw, ha]

theorem hostDb_window_congr {i j : Inputs} (hbus : SameBus i j) {d e : DbRegs} (h : d.window = e.window) :
    (hostDb i d).window = (hostDb j e).window := by
  have hd : i.wdata = j.wdata := hbus.2.2.2.2
  rw [hostDb_window, hostDb_window, SameBus.writesTo hbus, hd, h]

/-- The host's write keeps the agreement of a latch. -/
theorem SameLatch.hostDb {i j : Inputs} (hbus : SameBus i j) {b : Btn} {d e : DbRegs} (h : SameLatch b d e) :
    SameLatch b (hostDb i d) (hostDb j e) where
  hold := by rw [holdOf_hostDb, holdOf_hostDb, h.hold]
  pol := by
    have hd : i.wdata = j.wdata := hbus.2.2.2.2
    rw [hostDb_pol, hostDb_pol, SameBus.writesTo hbus, hd]
    split
    · rfl
    · exact h.pol
  prev := by rw [hostDb_prev, hostDb_prev, h.prev]

/-- A latch after a tick depends on nothing but itself, `DB_WINDOW`, its button and the transaction. -/
theorem SameLatch.tick {s s' t t' : State} (ht : TickOf s t) (ht' : TickOf s' t') (hr : s.nextInput.rst = false)
    (hbus : SameBus s.nextInput s'.nextInput) {b : Btn} (hw : s.cur.db.window = s'.cur.db.window)
    (hl : btnLevel s.nextInput b = btnLevel s'.nextInput b) (h : SameLatch b s.cur.db s'.cur.db) :
    SameLatch b t.cur.db t'.cur.db := by
  obtain ⟨-, hp, hv⟩ := unitsRun_db_keeps s
  obtain ⟨-, hp', hv'⟩ := unitsRun_db_keeps s'
  rw [ht.db, ht'.db]
  refine SameLatch.hostDb hbus ⟨?_, ?_, ?_⟩
  · have ha := SameLatch.accepted (s := beginTick s) (s' := beginTick s') h hbus.1
    rw [unitsRun_holdOf hr, unitsRun_holdOf (hbus.1.symm.trans hr), ha, hl, hw, h.hold]
  · rw [hp, hp', h.pol]
  · rw [hv, hv']
    exact hl

theorem window_tick_congr {s s' t t' : State} (ht : TickOf s t) (ht' : TickOf s' t')
    (hbus : SameBus s.nextInput s'.nextInput) (hw : s.cur.db.window = s'.cur.db.window) :
    t.cur.db.window = t'.cur.db.window := by
  rw [ht.db, ht'.db]
  exact hostDb_window_congr hbus (by rw [(unitsRun_db_keeps s).1, (unitsRun_db_keeps s').1, hw])

end Sys2Proof.Machine

/-! PROOF. The two sides of the block (R3, R319): each unit operation of one side, on two states that agree on that side, contributes the
same. -/

namespace Sys2Proof.Machine

/-! ### The motion side -/

/-- Agreement on the motion side is agreement of its registers, of `DB_WINDOW` and of the latches 0 to 2. -/
theorem sameMotionSide_iff {r q : Regs} :
    SameMotionSide r q ↔ r.mot = q.mot ∧ r.db.window = q.db.window ∧ ∀ b, btnIndex b < 3 → SameLatch b r.db q.db := by
  constructor
  · rintro ⟨hm, hw, h0, h1, h2, hk⟩
    refine ⟨hm, hw, fun b hb => ⟨?_, (hk _ hb).1, (hk _ hb).2⟩⟩
    cases b
    case right => exact h0
    case left => exact h1
    case pause => exact h2
    all_goals exact absurd hb (by decide)
  · rintro ⟨hm, hw, hl⟩
    refine ⟨hm, hw, (hl .right (by decide)).hold, (hl .left (by decide)).hold, (hl .pause (by decide)).hold, fun k hk => ?_⟩
    obtain ⟨b, rfl⟩ : ∃ b, btnIndex b = k := by
      interval_cases k
      · exact ⟨.right, rfl⟩
      · exact ⟨.left, rfl⟩
      · exact ⟨.pause, rfl⟩
    exact ⟨(hl b hk).pol, (hl b hk).prev⟩

/-- In ticks that start from states with one motion side, an operation does the same to the motion side. -/
theorem motPart_congr {s s' : State} (hr : s.inp.rst = s'.inp.rst) (h : SameMotionSide s.cur s'.cur) (i : Instr)
    (m : MotRegs) : motPart s i m = motPart s' i m := by
  obtain ⟨hm, -, hl⟩ := sameMotionSide_iff.1 h
  cases i
  case btn0Edge l => simp only [motPart, (hl .right (by decide)).accepted hr]
  case btn1Edge l => simp only [motPart, (hl .left (by decide)).accepted hr]
  case btn2Edge l => simp only [motPart, (hl .pause (by decide)).accepted hr]
  all_goals simp only [motPart, hm, hr]

theorem hostMot_congr {i j : Inputs} (h : SameBus i j) (m : MotRegs) : hostMot i m = hostMot j m := by
  have hd : i.wdata = j.wdata := h.2.2.2.2
  rw [hostMot, hostMot, SameBus.writesTo h, hd]

/-- The motion side after a tick without reset does not depend on the heat side (R319). -/
theorem sameMotionSide_tick {s s' t t' : State} (ht : TickOf s t) (ht' : TickOf s' t') (hr : s.nextInput.rst = false)
    (hbus : SameBus s.nextInput s'.nextInput) (h : SameMotionSide s.cur s'.cur)
    (hbtn : ∀ k < 3, s.nextInput.btn.getLsbD k = s'.nextInput.btn.getLsbD k) : SameMotionSide t.cur t'.cur := by
  obtain ⟨hm, hw, hl⟩ := sameMotionSide_iff.1 h
  refine sameMotionSide_iff.2 ⟨?_, window_tick_congr ht ht' hbus hw,
    fun b hb => SameLatch.tick ht ht' hr hbus hw (hbtn _ hb) (hl b hb)⟩
  have hpart := motPart_congr (s := beginTick s) (s' := beginTick s') hbus.1 h
  rw [ht.mot, ht'.mot, unitsRun_mot, unitsRun_mot, hostMot_congr hbus]
  simp only [hpart, hm, hbtn 0 (by decide), hbtn 1 (by decide), hbtn 2 (by decide)]

/-! ### The heat side -/

/-- The events of the heat side: all but `BTN_ACC0` to `BTN_ACC2`. -/
abbrev SameHeatEvents (e f : Events) : Prop := ∀ k < 13, k < 8 ∨ 10 < k → e.getLsbD k = f.getLsbD k

/-- Agreement on the heat side is agreement of its registers, of `DB_WINDOW`, of the latches 3 and 4 and of the heat side's events. -/
theorem sameHeatSide_iff {r q : Regs} :
    SameHeatSide r q ↔ (r.sys.now = q.sys.now ∧ r.zc = q.zc ∧ r.pid = q.pid ∧ r.rx = q.rx) ∧ r.db.window = q.db.window ∧
      (∀ b, 3 ≤ btnIndex b → SameLatch b r.db q.db) ∧ SameHeatEvents r.sys.event q.sys.event := by
  constructor
  · rintro ⟨hn, hz, hp, hx, hw, h3, h4, hk, he⟩
    refine ⟨⟨hn, hz, hp, hx⟩, hw, fun b hb => ?_, he⟩
    cases b
    case spUp => exact ⟨h3, (hk 3 (by decide) (by decide)).1, (hk 3 (by decide) (by decide)).2⟩
    case spDown => exact ⟨h4, (hk 4 (by decide) (by decide)).1, (hk 4 (by decide) (by decide)).2⟩
    all_goals exact absurd hb (by decide)
  · rintro ⟨⟨hn, hz, hp, hx⟩, hw, hl, he⟩
    refine ⟨hn, hz, hp, hx, hw, (hl .spUp (by decide)).hold, (hl .spDown (by decide)).hold, fun k hk hk' => ?_, he⟩
    obtain ⟨b, rfl⟩ : ∃ b, btnIndex b = k := by
      interval_cases k
      · exact ⟨.spUp, rfl⟩
      · exact ⟨.spDown, rfl⟩
    exact ⟨(hl b hk).pol, (hl b hk).prev⟩

/-- The ticks that start from `s` and `s'` see one heat side: its registers and all of its inputs agree. -/
structure SameHeatTick (s s' : State) : Prop where
  side : SameHeatSide s.cur s'.cur
  bus : SameBus s.inp s'.inp
  zcIn : s.inp.zcIn = s'.inp.zcIn
  btn : ∀ k, 3 ≤ k → k < 5 → s.inp.btn.getLsbD k = s'.inp.btn.getLsbD k
  flagIn : s.inp.flagIn = s'.inp.flagIn

namespace SameHeatTick

variable {s s' : State} (h : SameHeatTick s s')
include h

theorem rst : s.inp.rst = s'.inp.rst := h.bus.1
theorem wdata : s.inp.wdata = s'.inp.wdata := h.bus.2.2.2.2
theorem writesTo : writesTo s.inp = writesTo s'.inp := funext (SameBus.writesTo h.bus)
theorem now : s.cur.sys.now = s'.cur.sys.now := (sameHeatSide_iff.1 h.side).1.1
theorem zc : s.cur.zc = s'.cur.zc := (sameHeatSide_iff.1 h.side).1.2.1
theorem pid : s.cur.pid = s'.cur.pid := (sameHeatSide_iff.1 h.side).1.2.2.1
theorem rx : s.cur.rx = s'.cur.rx := (sameHeatSide_iff.1 h.side).1.2.2.2
theorem window : s.cur.db.window = s'.cur.db.window := (sameHeatSide_iff.1 h.side).2.1
theorem latch {b : Btn} (hb : 3 ≤ btnIndex b) : SameLatch b s.cur.db s'.cur.db := (sameHeatSide_iff.1 h.side).2.2.1 b hb
theorem event : SameHeatEvents s.cur.sys.event s'.cur.sys.event := (sameHeatSide_iff.1 h.side).2.2.2

theorem accepted {b : Btn} (hb : 3 ≤ btnIndex b) (p : Bool) : accepted s b p = accepted s' b p :=
  (h.latch hb).accepted h.rst p

theorem stepCmd : stepCmd s.inp = stepCmd s'.inp := by rw [Machine.stepCmd, Machine.stepCmd, h.writesTo, h.wdata]

theorem heatOn : heatOn s = heatOn s' := by
  rw [Machine.heatOn, Machine.heatOn, kill, kill, syncLost, syncLost, h.writesTo, h.wdata, h.zc,
    h.event 4 (by decide) (by decide)]

theorem zcEdge : zcEdge s = zcEdge s' := by rw [Machine.zcEdge, Machine.zcEdge, h.zcIn, h.zc]
theorem crossing : crossing s = crossing s' := by rw [Machine.crossing, Machine.crossing, h.rst, h.heatOn, h.zcEdge]
theorem unitOff : unitOff s = unitOff s' := by rw [Machine.unitOff, Machine.unitOff, h.rst, h.heatOn]
theorem quiet : quiet s = quiet s' := by rw [Machine.quiet, Machine.quiet, h.rst, h.heatOn, h.zcEdge]
theorem crossPeriod : crossPeriod s = crossPeriod s' := by rw [Machine.crossPeriod, Machine.crossPeriod, h.zc, h.now]
theorem sampleDue : sampleDue s = sampleDue s' := by
  rw [Machine.sampleDue, Machine.sampleDue, h.rst, h.pid, h.stepCmd]
theorem sampleDelay : sampleDelay s.cur = sampleDelay s'.cur := by
  rw [Machine.sampleDelay, Machine.sampleDelay, h.zc, h.pid]

/-! What an operation does to the registers of the heat side. -/

theorem nowTick_now (y y' : SysRegs) (hy : y.now = y'.now) : (sysPart s .nowTick y).now = (sysPart s' .nowTick y').now := by
  simp only [sysPart, h.rst, h.now]
  split
  · exact hy
  · rfl

theorem zcPart (i : Instr) (z : ZcRegs) : zcPart s i z = zcPart s' i z := by
  cases i <;>
    simp only [Machine.zcPart, h.crossing, h.unitOff, h.quiet, h.crossPeriod, h.sampleDue, h.sampleDelay, h.zc, h.now]

theorem pidPart (i : Instr) (p : PidRegs) : pidPart s i p = pidPart s' i p := by
  cases i
  case btn3Edge l => simp only [Machine.pidPart, h.accepted (b := .spUp) (by decide), h.pid]
  case btn4Edge l => simp only [Machine.pidPart, h.accepted (b := .spDown) (by decide), h.pid]
  all_goals simp only [Machine.pidPart, h.rst, h.sampleDue, h.pid]

theorem rxPart (i : Instr) (x : RxRegs) : rxPart s i x = rxPart s' i x := by
  cases i <;> simp only [Machine.rxPart, h.rst, h.rx]

/-- An operation sets the same events of the heat side, the three motion buttons at any level. -/
theorem evPart {i : Instr} (hi : ∀ l, i ≠ .btn0Edge l ∧ i ≠ .btn1Edge l ∧ i ≠ .btn2Edge l) :
    evPart s i = evPart s' i := by
  cases i
  case btn0Edge l => exact absurd rfl (hi l).1
  case btn1Edge l => exact absurd rfl (hi l).2.1
  case btn2Edge l => exact absurd rfl (hi l).2.2
  case btn3Edge l => simp only [Machine.evPart, accMask, h.accepted (b := .spUp) (by decide)]
  case btn4Edge l => simp only [Machine.evPart, accMask, h.accepted (b := .spDown) (by decide)]
  all_goals simp only [Machine.evPart, h.crossing, h.quiet, h.crossPeriod, h.sampleDue, h.zc, h.pid]

theorem hostZc (z : ZcRegs) : hostZc s.inp s.cur z = hostZc s'.inp s'.cur z := by
  simp -zeta only [Machine.hostZc, h.writesTo, h.wdata, h.stepCmd, h.sampleDelay]

theorem hostPid (p : PidRegs) : hostPid s.inp s.cur p = hostPid s'.inp s'.cur p := by
  simp -zeta only [Machine.hostPid, h.writesTo, h.wdata, h.stepCmd, h.pid]

theorem hostEvents : hostEvents s.inp s.cur = hostEvents s'.inp s'.cur := by
  rw [Machine.hostEvents, Machine.hostEvents, h.stepCmd, h.pid]

end SameHeatTick

/-! ### The events of the heat side -/

theorem SameHeatEvents.or {e e' f f' : Events} (h : SameHeatEvents e e') (k : SameHeatEvents f f') :
    SameHeatEvents (e ||| f) (e' ||| f') := fun n hn hn' => by
  rw [BitVec.getLsbD_or, BitVec.getLsbD_or, h n hn hn', k n hn hn']

theorem SameHeatEvents.and_right {e e' : Events} (h : SameHeatEvents e e') (m : Events) :
    SameHeatEvents (e &&& m) (e' &&& m) := fun n hn hn' => by
  rw [BitVec.getLsbD_and, BitVec.getLsbD_and, h n hn hn']

/-- The event of a motion button is none of the heat side's. -/
theorem sameHeatEvents_accMask {b : Btn} (hb : btnIndex b < 3) (s s' : State) (l l' : Bool) :
    SameHeatEvents (accMask s b l) (accMask s' b l') := by
  have h0 : ∀ (u : State) (p : Bool), ∀ n < 13, n < 8 ∨ 10 < n → (accMask u b p).getLsbD n = false := by
    intro u p
    unfold accMask
    cases accepted u b p
    · simp
    · cases b
      case right | left | pause => decide
      case spUp | spDown => exact absurd hb (by decide)
  exact fun n hn hn' => (h0 s l n hn hn').trans (h0 s' l' n hn hn').symm

/-- Two lists of masks that agree one by one on the heat side are joined to masks that do. -/
theorem sameHeatEvents_foldl {f g : Instr → Events} {is js : List Instr}
    (h : List.Forall₂ (fun i j => SameHeatEvents (f i) (g j)) is js) {e e' : Events} (he : SameHeatEvents e e') :
    SameHeatEvents (is.foldl (fun x i => x ||| f i) e) (js.foldl (fun x i => x ||| g i) e') := by
  induction h generalizing e e' with
  | nil => exact he
  | cons hij _ ih => exact ih (he.or hij)

/-- The units set the same events of the heat side: the operations of the two ticks differ in the motion buttons' levels alone. -/
theorem sameHeatEvents_unitsRun {s s' : State} (h : SameHeatTick (beginTick s) (beginTick s')) :
    SameHeatEvents (unitsRun s).evSet (unitsRun s').evSet := by
  have hsame : ∀ {i : Instr}, (∀ l, i ≠ .btn0Edge l ∧ i ≠ .btn1Edge l ∧ i ≠ .btn2Edge l) →
      SameHeatEvents (evPart (beginTick s) i) (evPart (beginTick s') i) :=
    fun hi n _ _ => by rw [h.evPart hi]
  have h3 : s.nextInput.btn.getLsbD 3 = s'.nextInput.btn.getLsbD 3 := h.btn 3 (by decide) (by decide)
  have h4 : s.nextInput.btn.getLsbD 4 = s'.nextInput.btn.getLsbD 4 := h.btn 4 (by decide) (by decide)
  have hf : s.nextInput.flagIn = s'.nextInput.flagIn := h.flagIn
  rw [unitsRun_evSet, unitsRun_evSet, unitOps, unitOps, h3, h4, hf]
  refine sameHeatEvents_foldl (.cons (hsame (by simp)) ?_) fun n _ _ => rfl
  refine .cons (sameHeatEvents_accMask (b := .right) (by decide) _ _ _ _) ?_
  refine .cons (sameHeatEvents_accMask (b := .left) (by decide) _ _ _ _) ?_
  refine .cons (sameHeatEvents_accMask (b := .pause) (by decide) _ _ _ _) ?_
  exact List.forall₂_same.2 fun i hi => hsame (by revert i; simp [internalOps])

theorem hostSys_now (i : Inputs) (r : Regs) (y : SysRegs) : (hostSys i r y).now = y.now := by
  unfold hostSys
  split <;> split <;> rfl

theorem hostSys_event (i : Inputs) (r : Regs) (y : SysRegs) :
    (hostSys i r y).event =
      if writesTo i 0x08#8 then r.sys.event &&& ~~~(i.wdata.extractLsb' 0 13) else y.event := by
  unfold hostSys
  split <;> split <;> rfl

theorem unitsRun_event (s : State) : (unitsRun s).nxt.sys.event = s.cur.sys.event := by
  rw [unitsRun_sys, sysPart]
  split <;> rfl

/-- What is left of the heat side's events after the host's clear (R99, R143). -/
theorem sameHeatEvents_hostSys {s s' : State} (h : SameHeatTick (beginTick s) (beginTick s')) :
    SameHeatEvents (hostSys s.nextInput s.cur (unitsRun s).nxt.sys).event
      (hostSys s'.nextInput s'.cur (unitsRun s').nxt.sys).event := by
  have hw : writesTo s.nextInput = writesTo s'.nextInput := h.writesTo
  have hd : s.nextInput.wdata = s'.nextInput.wdata := h.wdata
  rw [hostSys_event, hostSys_event, hw, hd, unitsRun_event, unitsRun_event]
  split
  · exact h.event.and_right _
  · exact h.event

/-- The heat side after a tick without reset does not depend on the motion side (R3, R319). -/
theorem sameHeatSide_tick {s s' t t' : State} (h : SameHeatTick (beginTick s) (beginTick s')) (ht : TickOf s t)
    (ht' : TickOf s' t') (hr : s.nextInput.rst = false) : SameHeatSide t.cur t'.cur := by
  have hz : s.cur.zc = s'.cur.zc := h.zc
  have hp : s.cur.pid = s'.cur.pid := h.pid
  have hx : s.cur.rx = s'.cur.rx := h.rx
  have hzc : s.nextInput.zcIn = s'.nextInput.zcIn := h.zcIn
  have hf : s.nextInput.flagIn = s'.nextInput.flagIn := h.flagIn
  have h3 : s.nextInput.btn.getLsbD 3 = s'.nextInput.btn.getLsbD 3 := h.btn 3 (by decide) (by decide)
  have h4 : s.nextInput.btn.getLsbD 4 = s'.nextInput.btn.getLsbD 4 := h.btn 4 (by decide) (by decide)
  have hhz : ∀ z, hostZc s.nextInput s.cur z = hostZc s'.nextInput s'.cur z := h.hostZc
  have hhp : ∀ p, hostPid s.nextInput s.cur p = hostPid s'.nextInput s'.cur p := h.hostPid
  have hhe : hostEvents s.nextInput s.cur = hostEvents s'.nextInput s'.cur := h.hostEvents
  refine sameHeatSide_iff.2 ⟨⟨?now, ?zc, ?pid, ?rx⟩, window_tick_congr ht ht' h.bus h.window, fun b hb => ?latch, ?event⟩
  case now =>
    rw [ht.now, ht'.now, hostSys_now, hostSys_now, unitsRun_sys, unitsRun_sys]
    exact h.nowTick_now _ _ h.now
  case zc =>
    rw [ht.zc, ht'.zc, unitsRun_zc, unitsRun_zc, hhz]
    simp only [h.zcPart, hz, hzc]
  case pid =>
    rw [ht.pid, ht'.pid, unitsRun_pid, unitsRun_pid, hhp]
    simp only [h.pidPart, hp, h3, h4]
  case rx => rw [ht.rx, ht'.rx, unitsRun_rx, unitsRun_rx, h.rxPart, hx, hf]
  case latch =>
    have hlt : btnIndex b < 5 := by cases b <;> decide
    exact SameLatch.tick ht ht' hr h.bus h.window (h.btn _ hb hlt) (h.latch hb)
  case event =>
    rw [ht.event, ht'.event, hhe]
    exact (sameHeatEvents_hostSys h).or ((sameHeatEvents_unitsRun h).or fun _ _ _ => rfl)

/-! ### The reset tick -/

/-- Reset states that captured the same motion buttons have one motion side. -/
theorem sameMotionSide_resetWith {b b' : BitVec 5} (h : ∀ k < 3, b.getLsbD k = b'.getLsbD k) (z z' : Bool) (f f' : BitVec 3) :
    SameMotionSide (Regs.resetWith z b f) (Regs.resetWith z' b' f') :=
  ⟨rfl, rfl, rfl, rfl, rfl, fun k hk => ⟨rfl, h k hk⟩⟩

/-- Reset states that captured the same `zc_in`, setpoint buttons and flag lines have one heat side. -/
theorem sameHeatSide_resetWith {b b' : BitVec 5} (h : ∀ k, 3 ≤ k → k < 5 → b.getLsbD k = b'.getLsbD k) (z : Bool)
    (f : BitVec 3) : SameHeatSide (Regs.resetWith z b f) (Regs.resetWith z b' f) :=
  ⟨rfl, rfl, rfl, rfl, rfl, rfl, rfl, fun k hk hk' => ⟨rfl, h k hk hk'⟩, fun _ _ _ => rfl⟩

end Sys2Proof.Machine

/-! PROOF. The statements about the scope of the block (00_scope.md): what a step is, that it always answers, and that the two sides do not
interfere. -/

namespace Sys2Proof.Machine

/-- Folding any function that runs `exec` on an answered state takes the operations' effects in order. -/
theorem foldl_exec {f : Host.Outcome State Fault Refusal → Instr → Host.Outcome State Fault Refusal}
    (hf : ∀ u i, f (.next u) i = exec i u) (is : List Instr) (s : State) :
    is.foldl f (.next s) = .next (effects is s) := by
  induction is generalizing s with
  | nil => rfl
  | cons i is ih => rw [List.foldl_cons, hf, exec_eq_effect, ih, effects_cons]

/-- Settles O7: the fold is `effects` of the schedule, and the step commits what it leaves. -/
theorem stepRunsTheScheduledOperations : Obligations.StepRunsTheScheduledOperations := by
  unfold Obligations.StepRunsTheScheduledOperations
  intro s
  exact ⟨effects (schedule s.nextInput) (beginTick s), foldl_exec (fun _ _ => rfl) (schedule s.nextInput) (beginTick s),
    step_eq_ticked s⟩

theorem nextInput_cons {s : State} {i : Inputs} {is : List Inputs} (h : s.stimulus = i :: is) : s.nextInput = i := by
  simp only [State.nextInput, h]

theorem nextInput_nil {s : State} (h : s.stimulus = []) : s.nextInput = { s.inp with valid := false } := by
  simp only [State.nextInput, h]

/-- Settles O8: `step` is `ticked`, and the next input vector is read off the stimulus. -/
theorem stepAlwaysAnswers : Obligations.StepAlwaysAnswers := by
  unfold Obligations.StepAlwaysAnswers
  intro s
  obtain ⟨-, hinp, hstim, hnxt, hev⟩ := tick_cases (step_eq_ticked s)
  exact ⟨⟨ticked s, step_eq_ticked s, hinp, hstim, hnxt, hev⟩, fun _ _ => nextInput_cons, nextInput_nil⟩

/-- Settles O59: in a reset tick both states become reset states; in every other tick each group of registers of a side is computed
from that side alone. -/
theorem sidesDoNotInterfere : Obligations.SidesDoNotInterfere := by
  unfold Obligations.SidesDoNotInterfere
  intro s s' t t' hs hs' hbus
  cases hr : s.nextInput.rst
  case true =>
    have hr' : s'.nextInput.rst = true := hbus.1.symm.trans hr
    obtain rfl := step_next_iff.1 hs
    obtain rfl := step_next_iff.1 hs'
    rw [ticked_cur_of_rst hr, ticked_cur_of_rst hr']
    refine ⟨fun _ hbtn => sameMotionSide_resetWith hbtn .., fun _ hzc hbtn hf => ?_⟩
    rw [hzc, hf]
    exact sameHeatSide_resetWith hbtn ..
  case false =>
    obtain ⟨u, hu, ht⟩ := tick_groups hr
    obtain ⟨u', hu', ht'⟩ := tick_groups (hbus.1.symm.trans hr)
    obtain rfl := Host.Outcome.next.inj (hs.symm.trans hu)
    obtain rfl := Host.Outcome.next.inj (hs'.symm.trans hu')
    exact ⟨sameMotionSide_tick ht ht' hr hbus,
      fun h hzc hbtn hf => sameHeatSide_tick ⟨h, hbus, hzc, hbtn, hf⟩ ht ht' hr⟩

end Sys2Proof.Machine

/-! PROOF. The zero-cross unit in its three conditions (R230, R231, R237): in a tick without reset the unit is off, takes a crossing or is
quiet, and the chain of its operations shrinks to what that condition gives. Then the host's write on it (R141, R145). -/

namespace Sys2Proof.Machine

/-- A tick without reset meets one of the three conditions of the unit. -/
theorem unit_conditions {s : State} (hr : s.inp.rst = false) :
    unitOff s = true ∨ crossing s = true ∨ quiet s = true := by
  unfold unitOff crossing quiet
  cases heatOn s <;> cases zcEdge s <;> simp [hr]

theorem unitOff_excludes {s : State} (h : unitOff s = true) : crossing s = false ∧ quiet s = false := by
  have hoff : heatOn s = false := by simp_all [unitOff]
  simp [crossing, quiet, hoff]

theorem crossing_excludes {s : State} (h : crossing s = true) : unitOff s = false ∧ quiet s = false := by
  obtain ⟨⟨-, hon⟩, hedge⟩ : (s.inp.rst = false ∧ heatOn s = true) ∧ zcEdge s = true := by simpa [crossing] using h
  simp [unitOff, quiet, hon, hedge]

theorem quiet_excludes {s : State} (h : quiet s = true) : unitOff s = false ∧ crossing s = false := by
  obtain ⟨⟨-, hon⟩, hedge⟩ : (s.inp.rst = false ∧ heatOn s = true) ∧ zcEdge s = false := by simpa [quiet] using h
  simp [unitOff, crossing, hon, hedge]

/-- A sample writes `FIRE_DELAY` alone of the unit's registers (R265). -/
theorem zcPart_pidSample (s : State) (z : ZcRegs) :
    zcPart s .pidSample z = { z with fireDelay := if sampleDue s then sampleDelay s.cur else z.fireDelay } := by
  unfold zcPart
  cases sampleDue s <;> rfl

/-- The unit off: idle, whatever it was (R230). -/
theorem unitsRun_zc_of_unitOff {s : State} (h : unitOff (beginTick s) = true) :
    (unitsRun s).nxt.zc = zcPart (beginTick s) .pidSample
      { s.cur.zc with
        zcPrev := s.nextInput.zcIn, triac := false, dlyCnt := 0#32, haveEdge := false, zcSilence := 0#32 } := by
  obtain ⟨hcross, hquiet⟩ := unitOff_excludes h
  rw [unitsRun_zc]
  simp [zcPart, h, hcross, hquiet]

/-- A crossing: timer and watchdog pause (R237, R238). -/
theorem unitsRun_zc_of_crossing {s : State} (h : crossing (beginTick s) = true) :
    (unitsRun s).nxt.zc = zcPart (beginTick s) .pidSample
      (zcPart (beginTick s) .zcRise { s.cur.zc with zcPrev := s.nextInput.zcIn }) := by
  obtain ⟨hoff, hquiet⟩ := crossing_excludes h
  rw [unitsRun_zc]
  simp [zcPart, hoff, hquiet]

/-- The two timer operations of a quiet tick: the timer counts to 0, and the gate drops as it leaves 1 (R237). -/
theorem zcPart_timer {s : State} (h : quiet s = true) {z : ZcRegs} (hz : z.dlyCnt = s.cur.zc.dlyCnt) :
    zcPart s .dlyExpire (zcPart s .dlyCount z) =
      { z with triac := z.triac && s.cur.zc.dlyCnt != 1#32, dlyCnt := decToZero s.cur.zc.dlyCnt } := by
  unfold zcPart decToZero
  by_cases h0 : s.cur.zc.dlyCnt = 0#32
  · have hz0 : { z with dlyCnt := 0#32 } = z := by rw [← hz.trans h0]
    simp [h, h0, hz0]
  · by_cases h1 : s.cur.zc.dlyCnt = 1#32
    · simp [h, h1]
    · have h2 : 2#32 ≤ s.cur.zc.dlyCnt := by bv_omega
      simp [h, h0, h1, h2]

/-- The unit on without a crossing: the timer counts, the silence grows, and the watchdog comes last (R237, R238). -/
theorem unitsRun_zc_of_quiet {s : State} (h : quiet (beginTick s) = true) :
    (unitsRun s).nxt.zc = zcPart (beginTick s) .pidSample (zcPart (beginTick s) .wdgFire
      { s.cur.zc with
        zcPrev := s.nextInput.zcIn
        zcSilence := incSaturating s.cur.zc.zcSilence
        triac := s.cur.zc.triac && s.cur.zc.dlyCnt != 1#32
        dlyCnt := decToZero s.cur.zc.dlyCnt }) := by
  obtain ⟨hoff, hcross⟩ := quiet_excludes h
  have hrise (z : ZcRegs) : zcPart (beginTick s) .zcRise z = z := by simp [zcPart, hcross]
  have hidle (z : ZcRegs) : zcPart (beginTick s) .zcOff z = z := by simp [zcPart, hoff]
  have hcount (z : ZcRegs) :
      zcPart (beginTick s) .wdgCount z = { z with zcSilence := incSaturating s.cur.zc.zcSilence } := by
    simp [zcPart, h]
  rw [unitsRun_zc]
  simp only [hrise, hidle]
  rw [zcPart_timer (z := { s.cur.zc with zcPrev := s.nextInput.zcIn }) h rfl, hcount]
  rfl

theorem hostZc_heatEn (i : Inputs) (r : Regs) (z : ZcRegs) :
    (hostZc i r z).heatEn = if writesTo i 0x00#8 then i.wdata.getLsbD 0 else z.heatEn := by
  simp only [hostZc, apply_ite ZcRegs.heatEn, ite_self]
  cases i.wdata.getLsbD 0 <;> rfl

/-- Of the host's writes only the kill reaches the gate and its timer (R141). -/
theorem hostZc_triac (i : Inputs) (r : Regs) (z : ZcRegs) : (hostZc i r z).triac = (!kill i && z.triac) := by
  simp only [hostZc, kill, apply_ite ZcRegs.triac, ite_self]
  cases writesTo i 0x00#8 <;> cases i.wdata.getLsbD 0 <;> simp

theorem hostZc_dlyCnt (i : Inputs) (r : Regs) (z : ZcRegs) :
    (hostZc i r z).dlyCnt = if kill i then 0#32 else z.dlyCnt := by
  simp only [hostZc, kill, apply_ite ZcRegs.dlyCnt, ite_self]
  by_cases hw : writesTo i 0x00#8 = true <;> by_cases hd : i.wdata.getLsbD 0 = true <;>
    simp [hw, hd, -BitVec.getLsbD_eq_getElem]

theorem hostZc_period (i : Inputs) (r : Regs) (z : ZcRegs) : (hostZc i r z).period = z.period := by
  simp only [hostZc, apply_ite ZcRegs.period, ite_self]

end Sys2Proof.Machine

/-! PROOF. Single registers after a tick without reset: `NOW` (R31), `EVENT.SYNC_LOST` (R99, R238) and `PID_OUT` (R264). -/

namespace Sys2Proof.Machine

/-- The tick the step computes, group by group. -/
theorem tickOf_ticked {s : State} (hr : s.nextInput.rst = false) : TickOf s (ticked s) := by
  obtain ⟨t, ht, hof⟩ := tick_groups hr
  rwa [step_next_iff.1 ht] at hof

theorem TickOf.now_eq {s t : State} (ht : TickOf s t) (hr : s.nextInput.rst = false) :
    t.cur.sys.now = s.cur.sys.now + 1#32 := by
  rw [ht.now, hostSys_now, unitsRun_sys]
  simp [sysPart, hr]

/-- An event bit is in the mask of a list of operations when one of them sets it. -/
theorem getLsbD_foldl_evPart (s : State) (is : List Instr) (e : Events) (k : Nat) :
    (is.foldl (fun x i => x ||| evPart s i) e).getLsbD k = (e.getLsbD k || is.any fun i => (evPart s i).getLsbD k) := by
  induction is generalizing e with
  | nil => simp
  | cons i is ih => rw [List.foldl_cons, ih, BitVec.getLsbD_or, List.any_cons, Bool.or_assoc]

theorem sampleEvents_syncLost (p : PidRegs) : (sampleEvents p).getLsbD 4 = false := by
  unfold sampleEvents
  split <;> split <;> decide

/-- The watchdog alone sets `SYNC_LOST` (R99, R238). -/
theorem evPart_syncLost {s : State} {i : Instr} (hi : i ≠ .wdgFire) : (evPart s i).getLsbD 4 = false := by
  have hacc (b : Btn) (l : Bool) : (accMask s b l).getLsbD 4 = false := by
    unfold accMask
    cases b <;> split <;> decide
  cases i
  case wdgFire => exact absurd rfl hi
  case pidSample => simp only [evPart, apply_ite (BitVec.getLsbD · 4), sampleEvents_syncLost, BitVec.getLsbD_zero, ite_self]
  case zcRise =>
    simp only [evPart, apply_ite (BitVec.getLsbD · 4), BitVec.getLsbD_or]
    simp [evZc, evZcRetrig, evDlyClamp]
  case dlyExpire =>
    simp only [evPart, apply_ite (BitVec.getLsbD · 4)]
    simp [evFireDone]
  case btn0Edge l => exact hacc .right l
  case btn1Edge l => exact hacc .left l
  case btn2Edge l => exact hacc .pause l
  case btn3Edge l => exact hacc .spUp l
  case btn4Edge l => exact hacc .spDown l
  all_goals exact BitVec.getLsbD_zero

theorem unitsRun_evSet_syncLost (s : State) :
    (unitsRun s).evSet.getLsbD 4 = (quiet (beginTick s) && watchdogDue s.cur.zc) := by
  have hwdg : (evPart (beginTick s) .wdgFire).getLsbD 4 = (quiet (beginTick s) && watchdogDue s.cur.zc) := by
    unfold evPart
    cases quiet (beginTick s) <;> cases hd : watchdogDue s.cur.zc <;> simp [hd, evSyncLost]
  rw [unitsRun_evSet, getLsbD_foldl_evPart, ← hwdg]
  simp [unitOps, internalOps, evPart_syncLost, -BitVec.getLsbD_eq_getElem]

/-- `SYNC_LOST` after a tick: what the host leaves of it, or the watchdog (R99, R238). -/
theorem TickOf.syncLost_eq {s t : State} (ht : TickOf s t) :
    syncLost t.cur = (eventKept s.cur s.nextInput 4 || quiet (beginTick s) && watchdogDue s.cur.zc) := by
  have hhost : (hostEvents s.nextInput s.cur).getLsbD 4 = false := by
    unfold hostEvents
    split
    exacts [sampleEvents_syncLost _, rfl]
  have hkept : (hostSys s.nextInput s.cur (unitsRun s).nxt.sys).event.getLsbD 4 = eventKept s.cur s.nextInput 4 := by
    rw [hostSys_event, unitsRun_event, eventKept, ← writesTo_eq]
    cases writesTo s.nextInput 0x08#8 <;> simp
  rw [syncLost, ht.event, BitVec.getLsbD_or, BitVec.getLsbD_or, hkept, unitsRun_evSet_syncLost, hhost, Bool.or_false]

theorem hostPid_pidOut (i : Inputs) (r : Regs) (p : PidRegs) :
    (hostPid i r p).pidOut = if stepCmd i then wordOfInt (sampleOut r.pid) else p.pidOut := by
  simp only [hostPid, apply_ite PidRegs.pidOut, ite_self]

theorem unitsRun_pidOut (s : State) :
    (unitsRun s).nxt.pid.pidOut = if sampleDue (beginTick s) then wordOfInt (sampleOut s.cur.pid) else s.cur.pid.pidOut := by
  rw [unitsRun_pid]
  simp only [pidPart, apply_ite PidRegs.pidOut, ite_self]
  rfl

/-- A sample writes at most 100.0 (R264). -/
theorem sampleOut_word_le (p : PidRegs) : (wordOfInt (sampleOut p)).toNat ≤ 6553600 := by
  obtain ⟨hlo, hhi⟩ : 0 ≤ sampleOut p ∧ sampleOut p ≤ 6553600 := clampInt_le _ (by decide)
  have hword := wordOfInt_toNat hlo (by omega)
  omega

end Sys2Proof.Machine

/-! PROOF. The gate and its timer in the invariant (R66 (a), (b), R390). The gate is guarded after every tick, from any state; the timer part
is kept. -/

namespace Sys2Proof.Machine

/-- The timer's part of the invariant, on the registers of the unit. -/
def TimerInv (z : ZcRegs) : Prop := (z.dlyCnt ≠ 0#32 → z.triac = true) ∧ z.dlyCnt ≤ z.period

theorem timerInv_iff {r : Regs} : TimerInv r.zc ↔ TimerUnderGate r ∧ TimerWithinPeriod r := Iff.rfl

theorem timerInv_of_stopped {z : ZcRegs} (h : z.dlyCnt = 0#32) : TimerInv z :=
  ⟨fun hne => absurd h hne, h ▸ BitVec.le_def.2 (Nat.zero_le _)⟩

/-- The timed branch loads a delay below the period it has just measured, and asserts the gate with it (R233 to R236). -/
theorem timerInv_zcRise {s : State} (h : crossing s = true) {z : ZcRegs} (hz : z.period = s.cur.zc.period) :
    TimerInv (zcPart s .zcRise z) := by
  have hperiod : (if s.cur.zc.haveEdge then crossPeriod s else z.period) = crossPeriod s := by
    unfold crossPeriod
    split
    · rfl
    · exact hz
  simp only [zcPart, h, if_true, TimerInv, hperiod]
  by_cases htimed : s.cur.zc.fireDelay < crossPeriod s
  · simp [htimed, BitVec.le_of_lt htimed]
  · simp [htimed, BitVec.le_def]

/-- The timer that counts down drops the gate only as it stops (R237). -/
theorem timerInv_count {z : ZcRegs} (h : TimerInv z) :
    TimerInv { z with triac := z.triac && z.dlyCnt != 1#32, dlyCnt := decToZero z.dlyCnt } := by
  obtain ⟨hgate, hle⟩ := h
  have hdec := decToZero_toNat z.dlyCnt
  refine ⟨fun hne => ?_, ?_⟩
  · have h2 : z.dlyCnt ≠ 0#32 ∧ z.dlyCnt ≠ 1#32 := by
      constructor <;> intro hd <;> exact hne (by dsimp only; rw [hd]; rfl)
    simp [hgate h2.1, h2.2]
  · rw [BitVec.le_def] at hle ⊢
    dsimp only
    omega

theorem timerInv_wdgFire {s : State} {z : ZcRegs} (h : TimerInv z) : TimerInv (zcPart s .wdgFire z) := by
  simp only [zcPart]
  split
  · exact timerInv_of_stopped rfl
  · exact h

theorem timerInv_pidSample {s : State} {z : ZcRegs} (h : TimerInv z) : TimerInv (zcPart s .pidSample z) := by
  rw [zcPart_pidSample]
  exact h

/-- The units keep the timer's part of the invariant. -/
theorem timerInv_unitsRun {s : State} (hr : s.nextInput.rst = false) (h : TimerInv s.cur.zc) :
    TimerInv (unitsRun s).nxt.zc := by
  rcases unit_conditions (s := beginTick s) hr with hoff | hcross | hquiet
  · rw [unitsRun_zc_of_unitOff hoff]
    exact timerInv_pidSample (timerInv_of_stopped rfl)
  · rw [unitsRun_zc_of_crossing hcross]
    exact timerInv_pidSample (timerInv_zcRise hcross rfl)
  · rw [unitsRun_zc_of_quiet hquiet]
    exact timerInv_pidSample (timerInv_wdgFire (timerInv_count h))

theorem timerInv_hostZc {i : Inputs} {r : Regs} {z : ZcRegs} (h : TimerInv z) : TimerInv (hostZc i r z) := by
  cases hk : kill i
  · unfold TimerInv
    rw [hostZc_triac, hostZc_dlyCnt, hostZc_period, hk]
    exact h
  · exact timerInv_of_stopped (by rw [hostZc_dlyCnt, hk, if_pos rfl])

theorem TickOf.timerInv {s t : State} (ht : TickOf s t) (hr : s.nextInput.rst = false) (h : TimerInv s.cur.zc) :
    TimerInv t.cur.zc := by
  rw [ht.zc]
  exact timerInv_hostZc (timerInv_unitsRun hr h)

theorem unitsRun_heatEn (s : State) : (unitsRun s).nxt.zc.heatEn = s.cur.zc.heatEn := by
  rw [unitsRun_zc]
  simp only [zcPart, apply_ite ZcRegs.heatEn, ite_self]

/-- The units leave the gate asserted only with the unit on and the watchdog silent (R230, R238). -/
theorem unitsRun_triac_guarded {s : State} (hr : s.nextInput.rst = false) (h : (unitsRun s).nxt.zc.triac = true) :
    heatOn (beginTick s) = true ∧ (quiet (beginTick s) && watchdogDue s.cur.zc) = false := by
  rcases unit_conditions (s := beginTick s) hr with hoff | hcross | hquiet
  · rw [unitsRun_zc_of_unitOff hoff, zcPart_pidSample] at h
    exact absurd h Bool.false_ne_true
  · have hon : heatOn (beginTick s) = true := by simp_all [crossing]
    rw [(crossing_excludes hcross).2, Bool.false_and]
    exact ⟨hon, rfl⟩
  · have hon : heatOn (beginTick s) = true := by simp_all [quiet]
    refine ⟨hon, ?_⟩
    rw [unitsRun_zc_of_quiet hquiet, zcPart_pidSample] at h
    by_contra hfire
    simp [zcPart, Bool.eq_true_of_not_eq_false hfire] at h

/-- After a tick without reset the gate is guarded, whatever the state was (R66 (a)). -/
theorem TickOf.gateGuarded {s t : State} (ht : TickOf s t) (hr : s.nextInput.rst = false) : GateGuarded t.cur := by
  intro hgate
  rw [ht.zc, hostZc_triac] at hgate
  obtain ⟨hkill, hunits⟩ : kill s.nextInput = false ∧ (unitsRun s).nxt.zc.triac = true := by simpa using hgate
  obtain ⟨hon, hsilent⟩ := unitsRun_triac_guarded hr hunits
  obtain ⟨⟨hen, hsync⟩, -⟩ : (s.cur.zc.heatEn = true ∧ syncLost s.cur = false) ∧ kill s.nextInput = false := by
    simpa [heatOn] using hon
  constructor
  · rw [ht.zc, hostZc_heatEn, unitsRun_heatEn]
    split
    · next hw => simpa [kill, hw] using hkill
    · exact hen
  · rw [ht.syncLost_eq, hsilent, eventKept, show s.cur.sys.event.getLsbD 4 = false from hsync]
    rfl

end Sys2Proof.Machine

/-! PROOF. The motion state machine: in a tick without reset a row of R315 changes by the accepted edges alone, in index order (R296, R311 to
R313). Its part of the invariant (R66 (c), (d), R314), and what `FLAGS` and `MOT_EN` can do. -/

namespace Sys2Proof.Machine

/-- The motion side after this tick's accepted edges, before the pulse generator and the host. -/
def afterButtons (s : State) : MotRegs :=
  let edge (b : Btn) (f : MotRegs → MotRegs) (m : MotRegs) : MotRegs :=
    if Accepts s.cur s.nextInput b then f m else m
  edge .pause pauseTransition <| edge .left leftTransition <| edge .right rightTransition s.cur.mot

/-- What holds of the motion side and is kept by the transition of each accepted edge holds after the edges. -/
theorem afterButtons_keeps {P : MotRegs → Prop} {s : State} (h : P s.cur.mot)
    (hright : ∀ m, Accepts s.cur s.nextInput .right → P m → P (rightTransition m))
    (hleft : ∀ m, Accepts s.cur s.nextInput .left → P m → P (leftTransition m))
    (hpause : ∀ m, Accepts s.cur s.nextInput .pause → P m → P (pauseTransition m)) : P (afterButtons s) := by
  have edge {b : Btn} {f : MotRegs → MotRegs} {m : MotRegs} (hm : P m)
      (hf : Accepts s.cur s.nextInput b → P m → P (f m)) : P (if Accepts s.cur s.nextInput b then f m else m) := by
    split
    · next ha => exact hf ha hm
    · exact hm
  exact edge (edge (edge h (hright _)) (hleft _)) (hpause _)

theorem motionRow_pulse (s : State) (m : MotRegs) :
    motionRow (motPart s .stepRise (motPart s .stepFall (motPart s .stepCount m))) = motionRow m := by
  have hcount (m : MotRegs) : motionRow (motPart s .stepCount m) = motionRow m := by
    simp only [motPart]; split <;> rfl
  have hfall (m : MotRegs) : motionRow (motPart s .stepFall m) = motionRow m := by
    simp only [motPart]; split <;> rfl
  have hrise (m : MotRegs) : motionRow (motPart s .stepRise m) = motionRow m := by
    simp only [motPart]; split <;> rfl
  rw [hrise, hfall, hcount]

theorem motionRow_hostMot (i : Inputs) (m : MotRegs) : motionRow (hostMot i m) = motionRow m := by
  unfold hostMot
  split <;> rfl

/-- The pulse generator and the host leave the row the edges give (R145, R316). -/
theorem TickOf.motionRow_eq {s t : State} (ht : TickOf s t) : motionRow t.cur.mot = motionRow (afterButtons s) := by
  have hright : accepted (beginTick s) .right (s.nextInput.btn.getLsbD 0) = decide (Accepts s.cur s.nextInput .right) :=
    accepted_level_eq (beginTick s) .right
  have hleft : accepted (beginTick s) .left (s.nextInput.btn.getLsbD 1) = decide (Accepts s.cur s.nextInput .left) :=
    accepted_level_eq (beginTick s) .left
  have hpause : accepted (beginTick s) .pause (s.nextInput.btn.getLsbD 2) = decide (Accepts s.cur s.nextInput .pause) :=
    accepted_level_eq (beginTick s) .pause
  rw [ht.mot, motionRow_hostMot, unitsRun_mot]
  dsimp only
  rw [motionRow_pulse]
  simp only [motPart, afterButtons, hright, hleft, hpause, decide_eq_true_eq]

/-- The motion side's part of the invariant, as the rows of R315 that can be reached. -/
def MotionInv (m : MotRegs) : Prop :=
  match m.dir with
  | .right => m.paused = false ∧ m.flags = flagsRight ∧ m.motDir = true ∧ m.motEn = true
  | .left => m.paused = false ∧ m.flags = flagsLeft ∧ m.motDir = false ∧ m.motEn = true
  | .none => m.flags = flagsPaused ∨ m.flags = 0#3 ∧ m.paused = false

theorem motionInv_iff {r : Regs} :
    MotionInv r.mot ↔ PausedHasNoDirection r ∧ FlagsExclusive r ∧ FlagsAgree r := by
  unfold MotionInv PausedHasNoDirection FlagsExclusive FlagsAgree flagsRight flagsLeft flagsPaused
  cases r.mot.dir
  all_goals cases r.mot.paused
  all_goals simp
  all_goals tauto

theorem motionInv_congr {m m' : MotRegs} (h : motionRow m = motionRow m') : MotionInv m ↔ MotionInv m' := by
  obtain ⟨hdir, hpaused, hmotDir, hmotEn, hflags⟩ := MotionRow.mk.inj h
  unfold MotionInv
  rw [hdir, hpaused, hmotDir, hmotEn, hflags]

theorem motionInv_rightTransition {m : MotRegs} (h : MotionInv m) : MotionInv (rightTransition m) := by
  unfold rightTransition
  split
  · next hgo => exact ⟨hgo.1, rfl, rfl, rfl⟩
  · exact h

theorem motionInv_leftTransition {m : MotRegs} (h : MotionInv m) : MotionInv (leftTransition m) := by
  unfold leftTransition
  split
  · next hgo => exact ⟨hgo.1, rfl, rfl, rfl⟩
  · exact h

/-- Leaving pause keeps the row: paused has no direction, and the flags go on showing PAUSED (R313). -/
theorem motionInv_pauseTransition {m : MotRegs} (h : MotionInv m) : MotionInv (pauseTransition m) := by
  unfold pauseTransition
  split
  · exact .inl rfl
  · next hpaused =>
    unfold MotionInv at h ⊢
    cases hd : m.dir <;> simp_all

theorem TickOf.motionInv {s t : State} (ht : TickOf s t) (h : MotionInv s.cur.mot) : MotionInv t.cur.mot :=
  (motionInv_congr ht.motionRow_eq).2 <| afterButtons_keeps h (fun _ _ => motionInv_rightTransition)
    (fun _ _ => motionInv_leftTransition) (fun _ _ => motionInv_pauseTransition)

/-- `m'` comes from `m` by accepted edges, `acc` saying that there was one: `MOT_EN` is never cleared, and `FLAGS` keeps its value or takes
one of the three codes. -/
structure FlagsMove (acc : Prop) (m m' : MotRegs) : Prop where
  motEn : m.motEn = true → m'.motEn = true
  flags : m'.flags = m.flags ∨ acc ∧ (m'.flags = flagsRight ∨ m'.flags = flagsLeft ∨ m'.flags = flagsPaused)

theorem FlagsMove.refl (acc : Prop) (m : MotRegs) : FlagsMove acc m m := ⟨id, .inl rfl⟩

theorem FlagsMove.trans {acc : Prop} {m m' m'' : MotRegs} (h : FlagsMove acc m m') (k : FlagsMove acc m' m'') :
    FlagsMove acc m m'' := by
  refine ⟨k.motEn ∘ h.motEn, ?_⟩
  rcases k.flags with heq | hcode
  · rw [heq]
    exact h.flags
  · exact .inr hcode

theorem flagsMove_rightTransition {acc : Prop} (h : acc) (m : MotRegs) : FlagsMove acc m (rightTransition m) := by
  unfold rightTransition
  split
  · exact ⟨fun _ => rfl, .inr ⟨h, .inl rfl⟩⟩
  · exact .refl acc m

theorem flagsMove_leftTransition {acc : Prop} (h : acc) (m : MotRegs) : FlagsMove acc m (leftTransition m) := by
  unfold leftTransition
  split
  · exact ⟨fun _ => rfl, .inr ⟨h, .inr (.inl rfl)⟩⟩
  · exact .refl acc m

theorem flagsMove_pauseTransition {acc : Prop} (h : acc) (m : MotRegs) : FlagsMove acc m (pauseTransition m) := by
  unfold pauseTransition
  split
  · exact ⟨id, .inr ⟨h, .inr (.inr rfl)⟩⟩
  · exact ⟨id, .inl rfl⟩

/-- An edge on RIGHT, LEFT or PAUSE is accepted in this tick. -/
abbrev MotionEdge (r : Regs) (i : Inputs) : Prop := Accepts r i .right ∨ Accepts r i .left ∨ Accepts r i .pause

/-- A tick without reset moves the flags by accepted edges alone (R314). -/
theorem TickOf.flagsMove {s t : State} (ht : TickOf s t) :
    FlagsMove (MotionEdge s.cur s.nextInput) s.cur.mot t.cur.mot := by
  have hmove := afterButtons_keeps (P := FlagsMove (MotionEdge s.cur s.nextInput) s.cur.mot) (.refl _ _)
    (fun m ha h => h.trans (flagsMove_rightTransition (.inl ha) m))
    (fun m ha h => h.trans (flagsMove_leftTransition (.inr (.inl ha)) m))
    (fun m ha h => h.trans (flagsMove_pauseTransition (.inr (.inr ha)) m))
  obtain ⟨-, -, -, hmotEn, hflags⟩ := MotionRow.mk.inj ht.motionRow_eq
  exact ⟨fun h => hmotEn.trans (hmove.motEn h), hflags ▸ hmove.flags⟩

end Sys2Proof.Machine

/-! PROOF. The statements about the state (10_state.md): reset and time, the outputs, and the invariant at reset and over every step. -/

namespace Sys2Proof.Machine

theorem resetWith_eq_resetImage (z : Bool) (b : BitVec 5) (f : BitVec 3) : Regs.resetWith z b f = resetImage z b f := rfl

/-- Settles O23: `RST` and `NOW.TICK` are conditional updates, each taken in one of the two cases of `rst`. -/
theorem resetAndTimeOperations : Obligations.ResetAndTimeOperations := by
  unfold Obligations.ResetAndTimeOperations
  intro s
  have hsucc : s.cur.sys.now + 1#32 = BitVec.ofNat 32 (s.cur.sys.now.toNat + 1) := by
    rw [BitVec.ofNat_add, BitVec.ofNat_toNat, BitVec.setWidth_eq]
  cases hr : s.inp.rst
  · refine ⟨by simp [exec, execRst, hr], ?_⟩
    simp only [exec, execNowTick, hr, hsucc, Bool.not_false, State.when_true]
    rfl
  · refine ⟨?_, by simp [exec, execNowTick, hr]⟩
    simp only [exec, execRst, hr, State.when_true, resetWith_eq_resetImage]
    rfl

/-- Settles O52: each output is read off one field; `irq` is the test R345 writes. -/
theorem outputsAreFunctionsOfTheState : Obligations.OutputsAreFunctionsOfTheState := by
  unfold Obligations.OutputsAreFunctionsOfTheState
  intro r
  exact ⟨rfl, rfl, rfl, rfl, rfl, rfl, rfl, bne_iff_ne⟩

/-- A reset image meets the invariant: the gate is off, the timer at 0, no direction, no flags, no power. -/
theorem inv_resetImage (z : Bool) (b : BitVec 5) (f : BitVec 3) : Inv (resetImage z b f) := by
  obtain ⟨hunder, hwithin⟩ := timerInv_iff.1 (timerInv_of_stopped (z := (resetImage z b f).zc) rfl)
  obtain ⟨hpaused, hflags, hagree⟩ := motionInv_iff (r := resetImage z b f) |>.1 (Or.inr ⟨rfl, rfl⟩)
  exact ⟨fun h => absurd h Bool.false_ne_true, hunder, hwithin, hpaused, hflags, hagree, Nat.zero_le _⟩

/-- Settles O53: `State.reset` holds the reset image of the idle pins. -/
theorem invariantHoldsAtReset : Obligations.InvariantHoldsAtReset := by
  unfold Obligations.InvariantHoldsAtReset
  exact ⟨inv_resetImage Config.idleZc Config.idleBtn Config.idleFlagIn, inv_resetImage⟩

/-- Settles O33: one tick adds one, and `k` ticks add `k` by induction. -/
theorem nowCountsTicks : Obligations.NowCountsTicks := by
  unfold Obligations.NowCountsTicks
  have htick (s : State) (hr : s.nextInput.rst = false) :
      ∃ t, step s = .next t ∧ t.cur.sys.now.toNat = (s.cur.sys.now.toNat + 1) % 2 ^ 32 := by
    refine ⟨ticked s, step_eq_ticked s, ?_⟩
    rw [(tickOf_ticked hr).now_eq hr, BitVec.toNat_add]
    rfl
  refine ⟨htick, fun k => ?_⟩
  induction k with
  | zero => exact fun s _ => ⟨s, rfl, (Nat.mod_eq_of_lt s.cur.sys.now.isLt).symm⟩
  | succ k ih =>
    intro s hr
    obtain ⟨t, hafter, hnow⟩ := ih s fun j hj => hr j (by omega)
    obtain ⟨u, hstep, hnext⟩ := htick t (hr k (by omega) t hafter)
    refine ⟨u, after_succ_right.2 ⟨t, hafter, hstep⟩, ?_⟩
    rw [hnext, hnow]
    omega

/-- Settles O55: a tick moves the flags by accepted edges, and none of the codes is 000. -/
theorem flagsNeverReturnToZero : Obligations.FlagsNeverReturnToZero := by
  unfold Obligations.FlagsNeverReturnToZero
  intro s hr
  obtain ⟨hmotEn, hflags⟩ := (tickOf_ticked hr).flagsMove
  refine ⟨ticked s, step_eq_ticked s, fun hne => ?_, hmotEn, fun hchange => ?_⟩
  · rcases hflags with heq | ⟨-, hcode | hcode | hcode⟩
    · rwa [heq]
    all_goals rw [hcode]; decide
  · obtain ⟨hacc, hcode⟩ := hflags.resolve_left hchange
    exact ⟨hcode, hacc⟩

/-- A sample writes a power in range, and nothing else writes `PID_OUT` (R66 (e), R264). -/
theorem TickOf.powerInRange {s t : State} (ht : TickOf s t) (h : PowerInRange s.cur) : PowerInRange t.cur := by
  have hunits : (unitsRun s).nxt.pid.pidOut.toNat ≤ 6553600 := by
    rw [unitsRun_pidOut]
    split
    · exact sampleOut_word_le _
    · exact h
  unfold PowerInRange
  rw [ht.pid, hostPid_pidOut]
  split
  · exact sampleOut_word_le _
  · exact hunits

/-- Settles O54: a reset tick gives a reset image; in every other tick the gate is guarded anew and each other part of the invariant is
kept by its own group of registers. -/
theorem invariantIsKeptByEveryStep : Obligations.InvariantIsKeptByEveryStep := by
  unfold Obligations.InvariantIsKeptByEveryStep
  intro s t hinv hstep
  obtain rfl := step_next_iff.1 hstep
  cases hr : s.nextInput.rst
  case true =>
    rw [ticked_cur_of_rst hr, resetWith_eq_resetImage]
    exact inv_resetImage ..
  case false =>
    have ht := tickOf_ticked hr
    obtain ⟨hunder, hwithin⟩ :=
      timerInv_iff.1 (ht.timerInv hr (timerInv_iff.2 ⟨hinv.timerUnderGate, hinv.timerWithinPeriod⟩))
    obtain ⟨hpaused, hflags, hagree⟩ :=
      motionInv_iff.1 (ht.motionInv (motionInv_iff.2 ⟨hinv.pausedHasNoDirection, hinv.flagsExclusive, hinv.flagsAgree⟩))
    exact ⟨ht.gateGuarded hr, hunder, hwithin, hpaused, hflags, hagree, ht.powerInRange hinv.powerInRange⟩

end Sys2Proof.Machine

/-! PROOF. `FIRE_DELAY` and the registers only the host writes, after a tick without reset: what the units leave and what the host stores
(R96, R98). -/

namespace Sys2Proof.Machine

/-! ### `FIRE_DELAY` -/

/-- The sample a host write commands is one of the unit's own too (R260; log 9). -/
theorem sampleDue_of_stepCmd {s : State} (hr : s.inp.rst = false) (h : stepCmd s.inp = true) : sampleDue s = true := by
  simp [sampleDue, hr, h]

/-- Of the units, a sample wins over a clamp (R98, R236, R265). -/
theorem unitsRun_fireDelay (s : State) : (unitsRun s).nxt.zc.fireDelay =
    if sampleDue (beginTick s) then sampleDelay s.cur
    else if crossing (beginTick s) = true ∧ ¬s.cur.zc.fireDelay < crossedPeriod s.cur then crossedPeriod s.cur
    else s.cur.zc.fireDelay := by
  rw [unitsRun_zc]
  simp only [zcPart, apply_ite ZcRegs.fireDelay, ite_self, beginTick_cur, crossPeriod_eq]
  by_cases hcross : crossing (beginTick s) = true
  · by_cases htimed : s.cur.zc.fireDelay < crossedPeriod s.cur <;> simp [hcross, htimed]
  · simp [hcross]

theorem hostZc_fireDelay (i : Inputs) (r : Regs) (z : ZcRegs) : (hostZc i r z).fireDelay =
    if writesTo i 0x1C#8 then i.wdata else if stepCmd i then sampleDelay r else z.fireDelay := by
  simp only [hostZc, apply_ite ZcRegs.fireDelay, ite_self]

/-- `FIRE_DELAY` after a tick: the host's value, else the sample's, else the clamp's (R98). -/
theorem TickOf.fireDelay_eq {s t : State} (ht : TickOf s t) (hr : s.nextInput.rst = false) : t.cur.zc.fireDelay =
    if HostWrites s.nextInput 0x1C then s.nextInput.wdata
    else if Samples s.cur s.nextInput then sampleDelay s.cur
    else if Crosses s.cur s.nextInput ∧ ¬s.cur.zc.fireDelay < crossedPeriod s.cur then crossedPeriod s.cur
    else s.cur.zc.fireDelay := by
  have hwrite : writesTo s.nextInput 0x1C#8 = decide (HostWrites s.nextInput 0x1C) := writesTo_eq ..
  have hsample : sampleDue (beginTick s) = decide (Samples s.cur s.nextInput) := sampleDue_eq _
  have hcross : crossing (beginTick s) = decide (Crosses s.cur s.nextInput) := crossing_eq _
  rw [ht.zc, hostZc_fireDelay, unitsRun_fireDelay, hwrite]
  cases hcmd : stepCmd s.nextInput
  · simp only [hsample, hcross, decide_eq_true_eq, Bool.false_eq_true, if_false]
  · have hdue : sampleDue (beginTick s) = true := sampleDue_of_stepCmd (s := beginTick s) hr hcmd
    have hs : Samples s.cur s.nextInput := of_decide_eq_true (hsample ▸ hdue)
    simp only [decide_eq_true_eq, if_true, if_pos hs]

/-- Settles O37: the chain of `TickOf.fireDelay_eq`, read as integers. -/
theorem fireDelayHasThreeWriters : Obligations.FireDelayHasThreeWriters := by
  unfold Obligations.FireDelayHasThreeWriters
  intro s hr
  refine ⟨ticked s, step_eq_ticked s, ?_⟩
  rw [(tickOf_ticked hr).fireDelay_eq hr]
  simp only [apply_ite BitVec.toNat, Nat.cast_ite, sampleDelay_toNat, BitVec.lt_def]

/-! ### The registers only the host writes -/

theorem unitsRun_irqEn (s : State) : (unitsRun s).nxt.sys.irqEn = s.cur.sys.irqEn := by
  rw [unitsRun_sys, sysPart]
  split <;> rfl

theorem hostSys_irqEn (i : Inputs) (r : Regs) (y : SysRegs) :
    (hostSys i r y).irqEn = if writesTo i 0x0C#8 then i.wdata.extractLsb' 0 13 else y.irqEn := by
  simp only [hostSys, apply_ite SysRegs.irqEn, ite_self]

/-- The units leave `GUARD` and `ZC_TIMEOUT` (R98). -/
theorem unitsRun_zc_keeps (s : State) :
    (unitsRun s).nxt.zc.guard = s.cur.zc.guard ∧ (unitsRun s).nxt.zc.zcTimeout = s.cur.zc.zcTimeout := by
  rw [unitsRun_zc]
  constructor
  · simp only [zcPart, apply_ite ZcRegs.guard, ite_self]
  · simp only [zcPart, apply_ite ZcRegs.zcTimeout, ite_self]

theorem hostZc_guard (i : Inputs) (r : Regs) (z : ZcRegs) :
    (hostZc i r z).guard = if writesTo i 0x24#8 then i.wdata else z.guard := by
  simp only [hostZc, apply_ite ZcRegs.guard, ite_self]

theorem hostZc_zcTimeout (i : Inputs) (r : Regs) (z : ZcRegs) :
    (hostZc i r z).zcTimeout = if writesTo i 0x28#8 then i.wdata else z.zcTimeout := by
  simp only [hostZc, apply_ite ZcRegs.zcTimeout, ite_self]

theorem unitsRun_stepHalf (s : State) : (unitsRun s).nxt.mot.stepHalf = s.cur.mot.stepHalf := by
  rw [unitsRun_mot]
  simp only [motPart, rightTransition, leftTransition, pauseTransition, apply_ite MotRegs.stepHalf, ite_self]

theorem hostMot_stepHalf (i : Inputs) (m : MotRegs) :
    (hostMot i m).stepHalf = if writesTo i 0x90#8 then i.wdata else m.stepHalf := by
  simp only [hostMot, apply_ite MotRegs.stepHalf]

/-- The registers of the PID unit that only the host writes (R98). -/
structure PidParams where
  temp : Word
  spStep : Word
  spMin : Word
  spMax : Word
  q0 : Word
  q1 : Word
  q2 : Word
  ts : Word

/-- The parameters the PID unit holds. -/
def pidParams (p : PidRegs) : PidParams where
  temp := p.temp
  spStep := p.spStep
  spMin := p.spMin
  spMax := p.spMax
  q0 := p.q0
  q1 := p.q1
  q2 := p.q2
  ts := p.ts

theorem pidParams_pidPart (s : State) (i : Instr) (p : PidRegs) : pidParams (pidPart s i p) = pidParams p := by
  cases i
  case btn3Edge | btn4Edge | tsCount | tsTick | pidSample =>
    simp only [pidPart]
    split <;> rfl
  all_goals rfl

theorem pidParams_unitsRun (s : State) : pidParams (unitsRun s).nxt.pid = pidParams s.cur.pid := by
  simp only [unitsRun_pid, pidParams_pidPart]

theorem pidParams_hostPid (i : Inputs) (r : Regs) (p : PidRegs) : pidParams (hostPid i r p) =
    { temp := if writesTo i 0x30#8 then i.wdata else (pidParams p).temp
      spStep := if writesTo i 0x38#8 then i.wdata else (pidParams p).spStep
      spMin := if writesTo i 0x3C#8 then i.wdata else (pidParams p).spMin
      spMax := if writesTo i 0x40#8 then i.wdata else (pidParams p).spMax
      q0 := if writesTo i 0x44#8 then i.wdata else (pidParams p).q0
      q1 := if writesTo i 0x48#8 then i.wdata else (pidParams p).q1
      q2 := if writesTo i 0x4C#8 then i.wdata else (pidParams p).q2
      ts := if writesTo i 0x60#8 then i.wdata else (pidParams p).ts } := by
  simp only [pidParams, hostPid, apply_ite PidRegs.temp, apply_ite PidRegs.spStep, apply_ite PidRegs.spMin,
    apply_ite PidRegs.spMax, apply_ite PidRegs.q0, apply_ite PidRegs.q1, apply_ite PidRegs.q2, apply_ite PidRegs.ts,
    ite_self]

/-- Settles O47: in each group the units leave the host's registers alone, and the host's write stores one of them. -/
theorem hostParametersChangeOnlyByTheHost : Obligations.HostParametersChangeOnlyByTheHost := by
  unfold Obligations.HostParametersChangeOnlyByTheHost
  intro s hr
  have ht := tickOf_ticked hr
  have hpid := pidParams_hostPid s.nextInput s.cur (unitsRun s).nxt.pid
  rw [← ht.pid, pidParams_unitsRun] at hpid
  obtain ⟨htemp, hspStep, hspMin, hspMax, hq0, hq1, hq2, hts⟩ := PidParams.mk.inj hpid
  obtain ⟨hguard, htimeout⟩ := unitsRun_zc_keeps s
  obtain ⟨hwindow, hpol, -⟩ := unitsRun_db_keeps s
  refine ⟨ticked s, step_eq_ticked s, ?_⟩
  dsimp only
  rw [htemp, hspStep, hspMin, hspMax, hq0, hq1, hq2, hts, ht.irqEn, ht.zc, ht.db, ht.mot, hostZc_heatEn, hostSys_irqEn,
    hostZc_guard, hostZc_zcTimeout, hostDb_window, hostDb_pol, hostMot_stepHalf, unitsRun_heatEn, unitsRun_irqEn, hguard,
    htimeout, hwindow, hpol, unitsRun_stepHalf]
  simp only [pidParams, writesTo_eq, decide_eq_true_eq, BitVec.ofNat_eq_ofNat, and_self]

end Sys2Proof.Machine

/-! PROOF. `EVENT` after a tick without reset, bit by bit: which operation sets which bit, and what the host leaves of it (R99). -/

namespace Sys2Proof.Machine

/-! ### The one bit of each event -/

theorem getLsbD_of_twoPow {e : Events} (n : Nat) (he : e = BitVec.twoPow 13 n) (hn : n < 13) (k : Nat) :
    e.getLsbD k = decide (k = n) := by
  simp only [he, BitVec.getLsbD_twoPow, hn, decide_true, Bool.true_and, eq_comm]

theorem getLsbD_evZc (k : Nat) : evZc.getLsbD k = decide (k = 0) := getLsbD_of_twoPow 0 rfl (by decide) k
theorem getLsbD_evFireDone (k : Nat) : evFireDone.getLsbD k = decide (k = 1) := getLsbD_of_twoPow 1 rfl (by decide) k
theorem getLsbD_evDlyClamp (k : Nat) : evDlyClamp.getLsbD k = decide (k = 2) := getLsbD_of_twoPow 2 rfl (by decide) k
theorem getLsbD_evZcRetrig (k : Nat) : evZcRetrig.getLsbD k = decide (k = 3) := getLsbD_of_twoPow 3 rfl (by decide) k
theorem getLsbD_evSyncLost (k : Nat) : evSyncLost.getLsbD k = decide (k = 4) := getLsbD_of_twoPow 4 rfl (by decide) k
theorem getLsbD_evPidDone (k : Nat) : evPidDone.getLsbD k = decide (k = 5) := getLsbD_of_twoPow 5 rfl (by decide) k
theorem getLsbD_evPidSatLo (k : Nat) : evPidSatLo.getLsbD k = decide (k = 6) := getLsbD_of_twoPow 6 rfl (by decide) k
theorem getLsbD_evPidSatHi (k : Nat) : evPidSatHi.getLsbD k = decide (k = 7) := getLsbD_of_twoPow 7 rfl (by decide) k

theorem getLsbD_evBtnAcc (b : Btn) (k : Nat) : (evBtnAcc b).getLsbD k = decide (k = 8 + btnIndex b) :=
  getLsbD_of_twoPow (8 + btnIndex b) (by cases b <;> rfl) (by cases b <;> decide) k

/-- A bit of a mask that is set where a condition holds. -/
theorem getLsbD_ite_zero (c : Prop) [Decidable c] (e : Events) (k : Nat) :
    (if c then e else 0#13).getLsbD k = true ↔ c ∧ e.getLsbD k = true := by
  split <;> simp [*]

/-- A bit of a mask that is set where a condition fails. -/
theorem getLsbD_zero_ite (c : Prop) [Decidable c] (e : Events) (k : Nat) :
    (if c then 0#13 else e).getLsbD k = true ↔ ¬c ∧ e.getLsbD k = true := by
  split <;> simp [*]

/-! ### The bits each operation sets -/

theorem evPart_zcRise_bit (s : State) (k : Nat) : (evPart s .zcRise).getLsbD k = true ↔
    Crosses s.cur s.inp ∧
      (k = 0 ∨ k = 2 ∧ ¬s.cur.zc.fireDelay.toNat < (crossedPeriod s.cur).toNat ∨ k = 3 ∧ s.cur.zc.dlyCnt ≠ 0) := by
  simp only [evPart, crossing_eq, decide_eq_true_eq, getLsbD_ite_zero, getLsbD_zero_ite, BitVec.getLsbD_or,
    Bool.or_eq_true, getLsbD_evZc, getLsbD_evZcRetrig, getLsbD_evDlyClamp, crossPeriod_eq, BitVec.lt_def, bne_iff_ne]
  tauto

theorem evPart_dlyExpire_bit (s : State) (k : Nat) : (evPart s .dlyExpire).getLsbD k = true ↔
    Quiet s.cur s.inp ∧ k = 1 ∧ s.cur.zc.dlyCnt = 1 := by
  simp only [evPart, quiet_eq, getLsbD_ite_zero, Bool.and_eq_true, decide_eq_true_eq, beq_iff_eq, getLsbD_evFireDone]
  tauto

theorem evPart_wdgFire_bit (s : State) (k : Nat) : (evPart s .wdgFire).getLsbD k = true ↔
    Quiet s.cur s.inp ∧ k = 4 ∧ SilenceTooLong s.cur := by
  simp only [evPart, quiet_eq, watchdogDue_eq, getLsbD_ite_zero, Bool.and_eq_true, decide_eq_true_eq, getLsbD_evSyncLost]
  tauto

theorem sampleEvents_bit (p : PidRegs) (k : Nat) : (sampleEvents p).getLsbD k = true ↔
    k = 5 ∨ k = 6 ∧ rawOf p < 0 ∨ k = 7 ∧ 6553600 < rawOf p := by
  simp only [sampleEvents, BitVec.getLsbD_or, Bool.or_eq_true, getLsbD_ite_zero, getLsbD_evPidDone, getLsbD_evPidSatLo,
    getLsbD_evPidSatHi, decide_eq_true_eq, sampleRaw_eq, Config.uMax]
  tauto

theorem evPart_pidSample_bit (s : State) (k : Nat) : (evPart s .pidSample).getLsbD k = true ↔
    Samples s.cur s.inp ∧ (k = 5 ∨ k = 6 ∧ rawOf s.cur.pid < 0 ∨ k = 7 ∧ 6553600 < rawOf s.cur.pid) := by
  simp only [evPart, sampleDue_eq, getLsbD_ite_zero, decide_eq_true_eq, sampleEvents_bit]

theorem accMask_bit (s : State) (b : Btn) (k : Nat) :
    (accMask s b (s.inp.btn.getLsbD (btnIndex b))).getLsbD k = true ↔ k = 8 + btnIndex b ∧ Accepts s.cur s.inp b := by
  simp only [accMask, accepted_level_eq, getLsbD_ite_zero, decide_eq_true_eq, getLsbD_evBtnAcc, and_comm]

/-! ### The bits of a tick -/

/-- The event of bit `k` occurs in this tick (R34, R99), in the order of the operations that set it. -/
def EventOccurs (r : Regs) (i : Inputs) (k : Nat) : Prop :=
  Crosses r i ∧ (k = 0 ∨ k = 2 ∧ ¬r.zc.fireDelay.toNat < (crossedPeriod r).toNat ∨ k = 3 ∧ r.zc.dlyCnt ≠ 0) ∨
  (∃ b, k = 8 + btnIndex b ∧ Accepts r i b) ∨
  Quiet r i ∧ k = 1 ∧ r.zc.dlyCnt = 1 ∨
  Quiet r i ∧ k = 4 ∧ SilenceTooLong r ∨
  Samples r i ∧ (k = 5 ∨ k = 6 ∧ rawOf r.pid < 0 ∨ k = 7 ∧ 6553600 < rawOf r.pid)

theorem Btn.exists_iff {P : Btn → Prop} : (∃ b, P b) ↔ P .right ∨ P .left ∨ P .pause ∨ P .spUp ∨ P .spDown := by
  constructor
  · rintro ⟨b, hb⟩
    cases b <;> simp [hb]
  · rintro (h | h | h | h | h) <;> exact ⟨_, h⟩

/-- The unit operations of a tick set the events that occur in it. -/
theorem unitOps_any_bit (s : State) (k : Nat) :
    ((unitOps s.inp).any fun j => (evPart s j).getLsbD k) = true ↔ EventOccurs s.cur s.inp k := by
  have h0 : (evPart s (.btn0Edge (s.inp.btn.getLsbD 0))).getLsbD k = true ↔ _ := accMask_bit s .right k
  have h1 : (evPart s (.btn1Edge (s.inp.btn.getLsbD 1))).getLsbD k = true ↔ _ := accMask_bit s .left k
  have h2 : (evPart s (.btn2Edge (s.inp.btn.getLsbD 2))).getLsbD k = true ↔ _ := accMask_bit s .pause k
  have h3 : (evPart s (.btn3Edge (s.inp.btn.getLsbD 3))).getLsbD k = true ↔ _ := accMask_bit s .spUp k
  have h4 : (evPart s (.btn4Edge (s.inp.btn.getLsbD 4))).getLsbD k = true ↔ _ := accMask_bit s .spDown k
  simp only [unitOps, internalOps, List.cons_append, List.nil_append, List.any_cons, List.any_nil, Bool.or_eq_true,
    evPart_zcRise_bit, h0, h1, h2, h3, h4, evPart_dlyExpire_bit, evPart_wdgFire_bit, evPart_pidSample_bit]
  simp only [evPart, BitVec.getLsbD_zero, Bool.false_eq_true, false_or, or_false, EventOccurs, Btn.exists_iff, or_assoc]

theorem unitsRun_evSet_bit (s : State) (k : Nat) :
    (unitsRun s).evSet.getLsbD k = true ↔ EventOccurs s.cur s.nextInput k := by
  rw [unitsRun_evSet, getLsbD_foldl_evPart, BitVec.getLsbD_zero, Bool.false_or]
  exact unitOps_any_bit (beginTick s) k

/-- A commanded sample sets no event that the unit's own sample does not (R260; log 9). -/
theorem eventOccurs_of_hostEvents {s : State} (hr : s.nextInput.rst = false) {k : Nat}
    (h : (hostEvents s.nextInput s.cur).getLsbD k = true) : EventOccurs s.cur s.nextInput k := by
  rw [hostEvents, getLsbD_ite_zero, stepCmd_eq, decide_eq_true_eq, sampleEvents_bit] at h
  obtain ⟨hcmd, hbit⟩ := h
  exact .inr (.inr (.inr (.inr ⟨⟨hr, .inr hcmd⟩, hbit⟩)))

theorem hostSys_event_bit (s : State) {k : Nat} (hk : k < 13) :
    (hostSys s.nextInput s.cur (unitsRun s).nxt.sys).event.getLsbD k = eventKept s.cur s.nextInput k := by
  rw [hostSys_event, unitsRun_event, eventKept, ← writesTo_eq]
  cases writesTo s.nextInput 0x08#8
  · simp
  · simp [hk, -BitVec.getLsbD_eq_getElem]

/-- A bit of `EVENT` after a tick: its event, or what the host leaves of it (R99). -/
theorem TickOf.event_bit {s t : State} (ht : TickOf s t) (hr : s.nextInput.rst = false) {k : Nat} (hk : k < 13) :
    t.cur.sys.event.getLsbD k = true ↔ EventOccurs s.cur s.nextInput k ∨ eventKept s.cur s.nextInput k = true := by
  rw [ht.event, BitVec.getLsbD_or, BitVec.getLsbD_or, hostSys_event_bit s hk, Bool.or_eq_true, Bool.or_eq_true,
    unitsRun_evSet_bit, or_iff_left_of_imp (eventOccurs_of_hostEvents hr), or_comm]

/-- Settles O38: `TickOf.event_bit`, where each of the thirteen bits leaves one event of `EventOccurs`. -/
theorem eventUpdate : Obligations.EventUpdate := by
  unfold Obligations.EventUpdate
  intro s hr
  refine ⟨ticked s, step_eq_ticked s, fun k hk => ?_⟩
  rw [(tickOf_ticked hr).event_bit hr hk, EventOccurs, Btn.exists_iff]
  interval_cases k <;> simp [btnIndex, -BitVec.getLsbD_eq_getElem]

end Sys2Proof.Machine

/-! PROOF. The opcode map (R113), said once: an address is misaligned, unmapped or that of one register, and on each of the three the decoder
answers one form of operation. -/

namespace Sys2Proof

/-! ### Addresses -/

/-- The address of the register of index `k` (R30). -/
def regAddr (k : Nat) : BitVec 8 := BitVec.ofNat 8 (4 * k)

theorem extract_offset_toNat (a : BitVec 8) : (a.extractLsb' 0 2).toNat = a.toNat % 4 := by
  rw [BitVec.extractLsb'_toNat, Nat.shiftRight_zero]

theorem extract_index_toNat (a : BitVec 8) : (a.extractLsb' 2 6).toNat = a.toNat / 4 := by
  have ha := a.isLt
  rw [BitVec.extractLsb'_toNat, Nat.shiftRight_eq_div_pow]
  omega

theorem aligned_iff {a : BitVec 8} : a.extractLsb' 0 2 = 0#2 ↔ a.toNat % 4 = 0 := by
  rw [← BitVec.toNat_inj, extract_offset_toNat]
  rfl

/-- The addresses at or above 0x9C are those beyond the 39 registers (R113). -/
theorem high_iff {a : BitVec 8} : 0x9C#8 ≤ a ↔ 0x27#6 ≤ a.extractLsb' 2 6 := by
  simp only [BitVec.le_def, extract_index_toNat, BitVec.toNat_ofNat]
  omega

theorem regAddr_toNat {k : Nat} (hk : k < 39) : (regAddr k).toNat = 4 * k := by
  rw [regAddr, BitVec.toNat_ofNat]
  omega

theorem regAddr_aligned {k : Nat} (hk : k < 39) : (regAddr k).extractLsb' 0 2 = 0#2 := by
  rw [aligned_iff, regAddr_toNat hk]
  omega

theorem regAddr_index {k : Nat} (hk : k < 39) : ((regAddr k).extractLsb' 2 6).toNat = k := by
  rw [extract_index_toNat, regAddr_toNat hk]
  omega

/-- The opcode map leaves no address out (R113). -/
theorem addr_cases (a : BitVec 8) :
    a.extractLsb' 0 2 ≠ 0#2 ∨ a.extractLsb' 0 2 = 0#2 ∧ 0x9C#8 ≤ a ∨ ∃ k < 39, a = regAddr k := by
  by_cases hoff : a.extractLsb' 0 2 = 0#2
  · by_cases hhigh : 0x9C#8 ≤ a
    · exact .inr (.inl ⟨hoff, hhigh⟩)
    · have h4 : a.toNat % 4 = 0 := aligned_iff.1 hoff
      have hlt : a.toNat < 0x9C := Nat.lt_of_not_le hhigh
      have hk : a.toNat / 4 < 39 := by omega
      refine .inr (.inr ⟨a.toNat / 4, hk, BitVec.eq_of_toNat_eq ?_⟩)
      rw [regAddr_toNat hk]
      omega
  · exact .inl hoff

/-! ### The decode of each form -/

theorem decodeFields_misaligned {a : BitVec 8} (h : a.extractLsb' 0 2 ≠ 0#2) (w : Bool) (d : Word) :
    decodeFields true w a d = .busMisaligned w (a.extractLsb' 2 6) (a.extractLsb' 0 2) d := by
  simp [decodeFields, h]

theorem decodeFields_unmapped {a : BitVec 8} (h : a.extractLsb' 0 2 = 0#2) (hhigh : 0x9C#8 ≤ a) (w : Bool) (d : Word) :
    decodeFields true w a d = .busUnmapped w (a.extractLsb' 2 6) d := by
  have hindex : 39 ≤ (a.extractLsb' 2 6).toNat := high_iff.1 hhigh
  have hread : readOps[(a.extractLsb' 2 6).toNat]? = none := List.getElem?_eq_none hindex
  have hwrite : (writeOps d)[(a.extractLsb' 2 6).toNat]? = none := List.getElem?_eq_none hindex
  cases w <;> simp [decodeFields, h, hread, hwrite, -BitVec.extractLsb'_toNat]

theorem decodeFields_read {k : Nat} (hk : k < readOps.length) (d : Word) :
    decodeFields true false (regAddr k) d = readOps[k] := by
  simp [decodeFields, regAddr_aligned hk, regAddr_index hk, hk]

theorem decodeFields_write (d : Word) {k : Nat} (hk : k < (writeOps d).length) :
    decodeFields true true (regAddr k) d = (writeOps d)[k] := by
  simp [decodeFields, regAddr_aligned hk, regAddr_index hk, hk]

/-! ### The encoding of each form -/

theorem encode_read {k : Nat} (hk : k < readOps.length) : encode readOps[k] = .bus (busWord false (regAddr k) 0#32) := by
  have hk' : k < 39 := hk
  interval_cases k <;> rfl

theorem encode_write (d : Word) {k : Nat} (hk : k < (writeOps d).length) :
    encode (writeOps d)[k] = .bus (busWord true (regAddr k) d) := by
  have hk' : k < 39 := hk
  interval_cases k <;> rfl

/-- The operations of format B, in the five forms of the opcode map (R113). -/
inductive BusOp : Instr → Prop
  | nop : BusOp .nop
  | read {k : Nat} (hk : k < readOps.length) : BusOp readOps[k]
  | write (d : Word) {k : Nat} (hk : k < (writeOps d).length) : BusOp (writeOps d)[k]
  | unmapped (w : Bool) (a : BitVec 6) (d : Word) : BusOp (.busUnmapped w a d)
  | misaligned (w : Bool) (a : BitVec 6) (b : BitVec 2) (d : Word) : BusOp (.busMisaligned w a b d)

theorem BusOp.of_mem_readOps {i : Instr} (h : i ∈ readOps) : BusOp i := by
  obtain ⟨k, hk, rfl⟩ := List.getElem_of_mem h
  exact .read hk

theorem BusOp.of_mem_writeOps {d : Word} {i : Instr} (h : i ∈ writeOps d) : BusOp i := by
  obtain ⟨k, hk, rfl⟩ := List.getElem_of_mem h
  exact .write d hk

/-- Every operation with a transaction word is one of the five forms. -/
theorem busOp_of_encode {i : Instr} {tw : TransWord} (h : encode i = .bus tw) : BusOp i := by
  cases i
  case nop => exact .nop
  case busUnmapped w a d => exact .unmapped w a d
  case busMisaligned w a b d => exact .misaligned w a b d
  case rst | zcRise | btn0Edge | btn1Edge | btn2Edge | btn3Edge | btn4Edge | flaginSample | nowTick | zcOff | dlyCount
      | dlyExpire | wdgCount | wdgFire | tsCount | tsTick | pidSample | hold0Dec | hold1Dec | hold2Dec | hold3Dec
      | hold4Dec | stepCount | stepFall | stepRise | stepIdle =>
    nomatch h
  case rdCtrl | rdStatus | rdEvent | rdIrqEn | rdNow | rdLastCross | rdPeriod | rdFireDelay | rdDlyCnt | rdGuard
      | rdZcTimeout | rdZcSilence | rdTemp | rdSetpoint | rdSpStep | rdSpMin | rdSpMax | rdQ0 | rdQ1 | rdQ2 | rdE1
      | rdE2 | rdPidOut | rdPidRaw | rdTs | rdTsCnt | rdSampleCount | rdPidCmd | rdDbWindow | rdBtnPol | rdDbHold0
      | rdDbHold1 | rdDbHold2 | rdDbHold3 | rdDbHold4 | rdMotion | rdStepHalf | rdStepCnt | rdFlagRx =>
    exact .of_mem_readOps (by simp [readOps])
  all_goals exact .of_mem_writeOps (d := ‹Word›) (by simp [writeOps])

/-! ### Decoding and encoding -/

/-- Every transaction word decodes to one of the five forms. -/
theorem busOp_decodeBus (tw : TransWord) : BusOp (decodeBus tw) := by
  rw [decodeBus]
  cases twValid tw
  · exact .nop
  · rcases addr_cases (twAddr tw) with hoff | ⟨hoff, hhigh⟩ | ⟨k, hk, haddr⟩
    · rw [decodeFields_misaligned hoff]
      exact .misaligned ..
    · rw [decodeFields_unmapped hoff hhigh]
      exact .unmapped ..
    · rw [haddr]
      cases twWrite tw
      · rw [decodeFields_read hk]
        exact .read hk
      · rw [decodeFields_write _ hk]
        exact .write _ hk

theorem decodeBus_of_unmapped {a : BitVec 6} (h : 0x27#6 ≤ a) (w : Bool) (d : Word) :
    decodeBus (busWord w (a ++ 0#2) d) = .busUnmapped w a d := by
  have hoff : (a ++ 0#2).extractLsb' 0 2 = 0#2 := BitVec.extractLsb'_append_eq_right
  have hindex : (a ++ 0#2).extractLsb' 2 6 = a := BitVec.extractLsb'_append_eq_left
  rw [decodeBus_busWord, decodeFields_unmapped hoff (high_iff.2 (by rwa [hindex])), hindex]

theorem decodeBus_of_misaligned {b : BitVec 2} (h : b ≠ 0#2) (w : Bool) (a : BitVec 6) (d : Word) :
    decodeBus (busWord w (a ++ b) d) = .busMisaligned w a b d := by
  have hoff : (a ++ b).extractLsb' 0 2 = b := BitVec.extractLsb'_append_eq_right
  have hindex : (a ++ b).extractLsb' 2 6 = a := BitVec.extractLsb'_append_eq_left
  rw [decodeBus_busWord, decodeFields_misaligned (by rwa [hoff]), hoff, hindex]

/-- Settles O2: each of the five forms decodes back. -/
theorem encodedTransactionsDecodeBack : Obligations.EncodedTransactionsDecodeBack := by
  unfold Obligations.EncodedTransactionsDecodeBack
  intro i tw hwf hi
  cases busOp_of_encode hi with
  | nop =>
    cases hi
    rfl
  | read hk =>
    rw [encode_read hk] at hi
    cases hi
    rw [decodeBus_busWord, decodeFields_read hk]
  | write d hk =>
    rw [encode_write d hk] at hi
    cases hi
    rw [decodeBus_busWord, decodeFields_write d hk]
  | unmapped w a d =>
    cases hi
    exact decodeBus_of_unmapped (of_decide_eq_true hwf) w d
  | misaligned w a b d =>
    cases hi
    exact decodeBus_of_misaligned (bne_iff_ne.1 hwf) w a d

end Sys2Proof

/-! PROOF. The statements about transaction words (R111, R113): the whole opcode map, what the decoder answers is well formed, and which bits it
keeps. -/

namespace Sys2Proof

/-! ### The opcode map -/

/-- The operations `ops` at the addresses of the registers. -/
def opMap (ops : List Instr) : List (BitVec 8 × Instr) := ((List.range 39).map regAddr).zip ops

theorem exists_of_mem_opMap {ops : List Instr} {p : BitVec 8 × Instr} (h : p ∈ opMap ops) :
    ∃ (k : Nat) (hk : k < ops.length), p = (regAddr k, ops[k]) := by
  obtain ⟨k, hk, rfl⟩ := List.getElem_of_mem h
  have hlen : k < ops.length := by
    rw [opMap, List.length_zip] at hk
    omega
  exact ⟨k, hlen, by simp [opMap]⟩

/-- Settles O3: the three ranges of the address by the decode of each form, the registers by their index. -/
theorem decodeMapIsTotal : Obligations.DecodeMapIsTotal := by
  unfold Obligations.DecodeMapIsTotal
  refine ⟨fun w a d => decodeBus_twOf false w a d,
    fun w a d h => (decodeBus_busWord w a d).trans (decodeFields_misaligned h w d),
    fun w a d h hhigh => (decodeBus_busWord w a d).trans (decodeFields_unmapped h hhigh w d),
    fun d p hp => ?_, fun d p hp => ?_, fun a => (addr_cases a).imp_right (.imp_left And.right)⟩
  · obtain ⟨k, hk, rfl⟩ := exists_of_mem_opMap (ops := readOps) hp
    exact (decodeBus_busWord false (regAddr k) d).trans (decodeFields_read hk d)
  · obtain ⟨k, hk, rfl⟩ := exists_of_mem_opMap (ops := writeOps d) hp
    exact (decodeBus_busWord true (regAddr k) d).trans (decodeFields_write d hk)

/-! ### What the decoder answers -/

theorem wellFormed_of_mem_readOps : ∀ i ∈ readOps, wellFormed i = true := by decide

theorem wellFormed_of_mem_writeOps (d : Word) : ∀ i ∈ writeOps d, wellFormed i = true :=
  List.all_eq_true.1 (rfl : (writeOps d).all wellFormed = true)

theorem wellFormed_decodeFields (v w : Bool) (a : BitVec 8) (d : Word) : wellFormed (decodeFields v w a d) = true := by
  cases v
  · rfl
  · rcases addr_cases a with hoff | ⟨hoff, hhigh⟩ | ⟨k, hk, rfl⟩
    · rw [decodeFields_misaligned hoff]
      exact bne_iff_ne.2 hoff
    · rw [decodeFields_unmapped hoff hhigh]
      exact decide_eq_true (high_iff.1 hhigh)
    · cases w
      · rw [decodeFields_read hk]
        exact wellFormed_of_mem_readOps _ (List.getElem_mem hk)
      · rw [decodeFields_write d hk]
        exact wellFormed_of_mem_writeOps d _ (List.getElem_mem hk)

/-- An address is its index and its offset. -/
theorem index_append_offset (a : BitVec 8) : a.extractLsb' 2 6 ++ a.extractLsb' 0 2 = a :=
  BitVec.extractLsb'_append_extractLsb' (w := 6) (len := 2)

/-- Where the decode drops no field, the encoding of its answer is the word. -/
theorem encode_decodeFields {w : Bool} {a : BitVec 8} (d : Word)
    (h : w = true ∨ a.extractLsb' 0 2 ≠ 0#2 ∨ 0x9C#8 ≤ a) : encode (decodeFields true w a d) = .bus (busWord w a d) := by
  rcases addr_cases a with hoff | ⟨hoff, hhigh⟩ | ⟨k, hk, rfl⟩
  · rw [decodeFields_misaligned hoff, encode, index_append_offset]
  · rw [decodeFields_unmapped hoff hhigh, encode, ← hoff, index_append_offset]
  · have hlow : ¬0x9C#8 ≤ regAddr k := by
      rw [BitVec.le_def, regAddr_toNat hk, BitVec.toNat_ofNat]
      omega
    obtain rfl : w = true := h.resolve_right (not_or.2 ⟨not_not.2 (regAddr_aligned hk), hlow⟩)
    rw [decodeFields_write d hk, encode_write d hk]

/-- `A[1:0]` in the transaction word (R111). -/
theorem twAddr_offset (tw : TransWord) : (twAddr tw).extractLsb' 0 2 = tw.extractLsb' 32 2 := by
  apply BitVec.eq_of_getLsbD_eq
  intro i hi
  have hi8 : i < 8 := by omega
  simp only [twAddr, BitVec.getLsbD_extractLsb', hi, hi8, Nat.zero_add, decide_true, Bool.true_and]

/-- Settles O4: the well-formedness of the decode of the fields, and its encoding where no field is dropped. -/
theorem decodedWordsEncodeBack : Obligations.DecodedWordsEncodeBack := by
  unfold Obligations.DecodedWordsEncodeBack
  refine ⟨fun tw => wellFormed_decodeFields .., fun tw hv h => ?_⟩
  have hvalid : twValid tw = true := hv
  have hword : busWord (twWrite tw) (twAddr tw) (twData tw) = tw := by
    have hfields := twOf_fields tw
    rwa [hvalid] at hfields
  rw [decodeBus, hvalid, encode_decodeFields _ (by rwa [twAddr_offset]), hword]

/-- Settles O1: the decoder evaluated on the fourteen words. -/
theorem decodesWordsOfTheTable : Obligations.DecodesWordsOfTheTable := by
  unfold Obligations.DecodesWordsOfTheTable
  exact ⟨rfl, rfl, rfl, rfl, rfl, rfl, rfl, rfl, rfl, rfl, rfl, rfl, rfl, rfl⟩

end Sys2Proof

/-! PROOF. The statements about pin vectors (R110, R115) and about the table word (log 8): what a vector presents, and that the step runs what the
decoder answers. -/

namespace Sys2Proof

/-! ### What a pin vector presents -/

theorem decodePins_of_rst {pv : PinWord} (h : pvRst pv = true) : decodePins pv = [.rst] := if_pos h

/-- The operations of a pin vector with `rst = 0`, one by one (R115). -/
theorem mem_decodePins_iff {pv : PinWord} (h : pvRst pv = false) {i : Instr} :
    i ∈ decodePins pv ↔ i = .zcRise ∧ pvZc pv = true ∨ i = .btn0Edge ((pvBtn pv).getLsbD 0) ∨
      i = .btn1Edge ((pvBtn pv).getLsbD 1) ∨ i = .btn2Edge ((pvBtn pv).getLsbD 2) ∨
      i = .btn3Edge ((pvBtn pv).getLsbD 3) ∨ i = .btn4Edge ((pvBtn pv).getLsbD 4) ∨ i = .flaginSample (pvFlagIn pv) := by
  rw [decodePins, h]
  cases pvZc pv <;> simp [-BitVec.getLsbD_eq_getElem]

theorem pvBtn_getLsbD (pv : PinWord) {k : Nat} (hk : k < 5) : (pvBtn pv).getLsbD k = pv.getLsbD (3 + k) := by
  rw [pvBtn, BitVec.getLsbD_extractLsb', decide_eq_true hk, Bool.true_and]

@[simp] theorem pvRst_buttonWord (k : Nat) (p : Bool) : pvRst (buttonWord k p) = false := pvRst_pinWord ..

/-- The vector of button `k` at level `p` has that level on that button's pin. -/
theorem pvBtn_buttonWord {k : Nat} (hk : k < 5) (p : Bool) : (pvBtn (buttonWord k p)).getLsbD k = p := by
  rw [buttonWord, pvBtn_pinWord]
  interval_cases k <;> cases p <;> rfl

/-- The vector that encodes an operation presents it. -/
theorem mem_decodePins_of_encode {i : Instr} {pv : PinWord} (h : encode i = .pins pv) : i ∈ decodePins pv := by
  cases i
  case rst =>
    cases h
    rw [decodePins_of_rst (pvRst_pinWord ..)]
    exact List.mem_singleton_self _
  case zcRise =>
    cases h
    simp [mem_decodePins_iff]
  case flaginSample f =>
    cases h
    simp [mem_decodePins_iff]
  case btn0Edge p | btn1Edge p | btn2Edge p | btn3Edge p | btn4Edge p =>
    cases h
    simp [mem_decodePins_iff, pvBtn_buttonWord, -BitVec.getLsbD_eq_getElem]
  all_goals nomatch h

/-- Settles O5: the operations of a vector with `rst = 0`, one by one, and that an encoding presents its operation. -/
theorem pinVectorsPresentTheirOperations : Obligations.PinVectorsPresentTheirOperations := by
  unfold Obligations.PinVectorsPresentTheirOperations
  refine ⟨fun pv => decodePins_of_rst, fun pv h => ?_, fun i pv => mem_decodePins_of_encode⟩
  simp only [mem_decodePins_iff (pv := pv) h, pvBtn_getLsbD, reduceCtorEq, false_and, false_or, or_false, true_and,
    not_false_eq_true, Instr.btn0Edge.injEq, Instr.btn1Edge.injEq, Instr.btn2Edge.injEq, Instr.btn3Edge.injEq,
    Instr.btn4Edge.injEq, Instr.flaginSample.injEq, Nat.reduceLT, Nat.reduceAdd, pvZc, pvFlagIn, eq_comm, implies_true,
    and_true]

/-- The one operation `decode` answers for a pin vector is among those the vector presents (log 8). -/
theorem decodePinHead_mem (pv : PinWord) : decodePinHead pv ∈ decodePins pv := by
  unfold decodePinHead
  split_ifs with hrst hzc h0 h1 h2 h3 h4
  · rw [decodePins_of_rst hrst]
    exact List.mem_singleton_self _
  all_goals rw [mem_decodePins_iff (Bool.eq_false_of_not_eq_true hrst)]
  · simp [hzc]
  · simp [h0, -BitVec.getLsbD_eq_getElem]
  · simp [h1, -BitVec.getLsbD_eq_getElem]
  · simp [h2, -BitVec.getLsbD_eq_getElem]
  · simp [h3, -BitVec.getLsbD_eq_getElem]
  · simp [h4, -BitVec.getLsbD_eq_getElem]
  · simp

end Sys2Proof

namespace Sys2Proof.Machine

/-! ### What a table word presents -/

/-- A table word that decodes is a pin vector or a transaction word (log 8). -/
theorem decodeTableWord_cases {nbits w : Nat} {i : Instr} (h : decodeTableWord nbits w = some i) :
    (nbits ≠ 0 ∧ nbits ≤ 16) ∧ decodePinHead (BitVec.ofNat 10 w) = i ∨
      16 < nbits ∧ decodeBus (BitVec.ofNat 42 w) = i := by
  unfold decodeTableWord decode at h
  split_ifs at h with h0 hpins hsmall hsmall
  · cases h
  · exact .inl ⟨⟨h0, hpins⟩, Option.some.inj h⟩
  · cases h
  · exact .inr ⟨Nat.lt_of_not_le hpins, Option.some.inj h⟩
  · cases h

theorem wordInputs_pv {nbits : Nat} (h : nbits ≠ 0 ∧ nbits ≤ 16) (w : Nat) (i : Inputs) :
    (wordInputs nbits w i).pv = BitVec.ofNat 10 w := by
  rw [wordInputs, if_neg h.1, if_pos h.2]
  exact pinWord_fields _

theorem wordInputs_tw {nbits : Nat} (h : 16 < nbits) (w : Nat) (i : Inputs) :
    (wordInputs nbits w i).tw = BitVec.ofNat 42 w := by
  rw [wordInputs, if_neg (by omega), if_neg (by omega)]
  exact twOf_fields _

theorem withFetchWord_nextInput (s : State) (nbits w : Nat) :
    (s.withFetchWord nbits w).nextInput = wordInputs nbits w s.nextInput := rfl

/-- Settles O6: the input vector that presents a word has it as its pins or as its transaction, and the schedule holds what each presents. -/
theorem fetchedWordIsScheduled : Obligations.FetchedWordIsScheduled := by
  unfold Obligations.FetchedWordIsScheduled
  intro s nbits w i h
  rw [withFetchWord_nextInput, schedule, List.mem_append, List.mem_append]
  rcases decodeTableWord_cases h with ⟨hpins, rfl⟩ | ⟨hbus, rfl⟩
  · rw [wordInputs_pv hpins]
    exact .inl (.inl (decodePinHead_mem _))
  · rw [wordInputs_tw hbus]
    exact .inr (List.mem_singleton_self _)

end Sys2Proof.Machine

/-! PROOF. What single internal and pin operations contribute to a tick: the sample divider (R260), the hold-offs (R295), the pulse generator
(R316) and the flag receiver (R318). -/

namespace Sys2Proof.Machine

/-! ### Counters as numbers -/

theorem word_pos_iff {n : Word} : 0 < n.toNat ↔ n ≠ 0#32 := by
  rw [Nat.pos_iff_ne_zero, ne_eq, ne_eq, ← BitVec.toNat_inj]
  rfl

theorem succ_eq_ofNat (n : Word) : n + 1#32 = BitVec.ofNat 32 (n.toNat + 1) := by
  rw [BitVec.ofNat_add, BitVec.ofNat_toNat, BitVec.setWidth_eq]

theorem decToZero_eq_ofNat (n : Word) : decToZero n = BitVec.ofNat 32 (n.toNat - 1) := by
  rw [← decToZero_toNat, BitVec.ofNat_toNat, BitVec.setWidth_eq]

theorem pred_eq_ofNat {n : Word} (h : n ≠ 0#32) : n - 1#32 = BitVec.ofNat 32 (n.toNat - 1) := by
  rw [← decToZero_eq_ofNat, decToZero, if_neg h]

/-- An operation of the tick, in the words of the statements: `f` where the condition holds. -/
theorem State.when_eq_ite {s : State} {c : Bool} {P : Prop} [Decidable P] (h : c = true ↔ P) (f : State → State) :
    s.when c f = if P then f s else s := by
  simp only [State.when, h]

/-! ### The sample divider -/

/-- Settles O26: the two updates of `TS_CNT`, each in its condition. -/
theorem sampleDividerOperations : Obligations.SampleDividerOperations := by
  unfold Obligations.SampleDividerOperations
  intro s
  constructor
  · rw [exec, execTsCount, autoSample_eq, succ_eq_ofNat]
    cases s.inp.rst
    · simp only [decide_eq_true_eq]
      rfl
    · rfl
  · have hdue : (!s.inp.rst && decide (SampleTick s.cur)) = true ↔ s.inp.rst = false ∧ SampleTick s.cur := by
      rw [Bool.and_eq_true, Bool.not_eq_true', decide_eq_true_eq]
    rw [exec, execTsTick, autoSample_eq, State.when_eq_ite hdue]
    rfl

/-! ### The hold-offs -/

/-- Settles O30: `holdDec_eq` for each button, its counter as a number. -/
theorem holdOffOperations : Obligations.HoldOffOperations := by
  unfold Obligations.HoldOffOperations
  intro s
  have hdec (b : Btn) : (.next (holdDec b s) : Host.Outcome State Fault Refusal) =
      .next (if s.inp.rst = false ∧ ¬Accepts s.cur s.inp b then
        { s with nxt := { s.nxt with db := setHold b (BitVec.ofNat 32 ((holdOf b s.cur.db).toNat - 1)) s.nxt.db } }
      else s) := by
    rw [holdDec_eq, decToZero_eq_ofNat]
  exact ⟨hdec .right, hdec .left, hdec .pause, hdec .spUp, hdec .spDown⟩

/-! ### The pulse generator -/

theorem drive_iff (m : MotRegs) : drive m = true ↔ m.dir ≠ .none ∧ m.paused = false := by
  simp [drive]

theorem pulseDue_iff (m : MotRegs) :
    pulseDue m = true ↔ (m.dir ≠ .none ∧ m.paused = false) ∧ m.stepHalf ≠ 0#32 := by
  rw [pulseDue, Bool.and_eq_true, drive_iff, bne_iff_ne]

/-- Settles O31: the three updates, each in its condition; `STEP.IDLE` is the identity. -/
theorem pulseOperations : Obligations.PulseOperations := by
  unfold Obligations.PulseOperations
  intro s
  have hcount : (!s.inp.rst && s.cur.mot.stepCnt != 0#32) = true ↔
      s.inp.rst = false ∧ 0 < s.cur.mot.stepCnt.toNat := by
    rw [Bool.and_eq_true, Bool.not_eq_true', bne_iff_ne, word_pos_iff]
  have hfall : (!s.inp.rst && s.cur.mot.stepCnt == 0#32 && s.cur.mot.step) = true ↔
      s.inp.rst = false ∧ s.cur.mot.stepCnt = 0 ∧ s.cur.mot.step = true := by
    rw [Bool.and_eq_true, Bool.and_eq_true, Bool.not_eq_true', beq_iff_eq, and_assoc]
    rfl
  have hrise : (!s.inp.rst && s.cur.mot.stepCnt == 0#32 && !s.cur.mot.step && pulseDue s.cur.mot) = true ↔
      s.inp.rst = false ∧ s.cur.mot.stepCnt = 0 ∧ s.cur.mot.step = false ∧
        (s.cur.mot.dir ≠ .none ∧ s.cur.mot.paused = false) ∧ s.cur.mot.stepHalf ≠ 0 := by
    rw [Bool.and_eq_true, Bool.and_eq_true, Bool.and_eq_true, Bool.not_eq_true', Bool.not_eq_true', beq_iff_eq,
      pulseDue_iff, and_assoc, and_assoc]
    rfl
  have hlow : s.cur.mot.stepHalf.toNat - 1 = max s.cur.mot.stepHalf.toNat 1 - 1 := by omega
  refine ⟨?_, ?_, ?_, rfl⟩
  · rw [exec, execStepCount, State.when_eq_ite hcount]
    split_ifs with h
    · rw [pred_eq_ofNat (word_pos_iff.1 h.2)]
      rfl
    · rfl
  · rw [exec, execStepFall, State.when_eq_ite hfall, decToZero_eq_ofNat, hlow]
    rfl
  · rw [exec, execStepRise, State.when_eq_ite hrise]
    split_ifs with h
    · obtain ⟨-, -, -, -, hhalf⟩ := h
      rw [pred_eq_ofNat hhalf]
      rfl
    · rfl

/-! ### The flag receiver -/

/-- Settles O32: one conditional update of the receiver. -/
theorem flagReceiverOperation : Obligations.FlagReceiverOperation := by
  unfold Obligations.FlagReceiverOperation
  intro s f
  rw [exec, execFlaginSample]
  cases s.inp.rst <;> rfl

end Sys2Proof.Machine

/-! PROOF. The bus response is a function of the transaction and `S_t` (R140): each of the five forms of a bus operation answers from `S_t` or from
nothing. -/

namespace Sys2Proof.Machine

theorem hostWrite_resp {f : State → State} (hf : ∀ u, (f u).resp = u.resp) (s : State) :
    (hostWrite f s).resp = BusResponse.idle := by
  rcases hostWrite_cases f s with ⟨-, h⟩ | ⟨-, h⟩
  · rw [h]
    rfl
  · rw [h, hf]
    rfl

/-- A read answers its register in `S_t` (R170). -/
theorem effect_read {k : Nat} (hk : k < readOps.length) : ∃ r, ∀ u, effect readOps[k] u = hostRead r u := by
  have hk' : k < 39 := hk
  interval_cases k <;> exact ⟨_, fun _ => rfl⟩

/-- A write answers the same in every state: no error, or that of a read-only register (R140, R162). -/
theorem effect_write_resp (d : Word) {k : Nat} (hk : k < (writeOps d).length) :
    ∃ r, ∀ u, (effect (writeOps d)[k] u).resp = r := by
  have hk' : k < 39 := hk
  have hlegal {f : State → State} (hf : ∀ u, (f u).resp = u.resp) : ∃ r, ∀ u, (hostWrite f u).resp = r :=
    ⟨BusResponse.idle, hostWrite_resp hf⟩
  interval_cases k <;> first
    | exact ⟨(raiseBusError .writeRo State.reset).resp, fun _ => rfl⟩
    | exact hlegal fun u => by cases d.getLsbD 0 <;> rfl

theorem effect_resp_congr {i : Instr} (hi : BusOp i) {u v : State} (h : v.cur = u.cur) :
    (effect i v).resp = (effect i u).resp := by
  cases hi with
  | nop => rfl
  | read hk =>
    obtain ⟨r, hread⟩ := effect_read hk
    rw [hread, hread, hostRead, hostRead, h]
    rfl
  | write d hk =>
    obtain ⟨r, hwrite⟩ := effect_write_resp d hk
    rw [hwrite, hwrite]
  | unmapped w a d => rfl
  | misaligned w a b d => rfl

theorem busResponse_congr {i j : Inputs} (htw : j.tw = i.tw) {u v : State} (h : v.cur = u.cur) :
    busResponse j v = busResponse i u := by
  rw [busResponse, busResponse, htw]
  exact effect_resp_congr (busOp_decodeBus _) h

end Sys2Proof.Machine

/-! PROOF. The flag receiver in a tick without reset (R119, R318): what it samples, and that no other register and no answer on the bus depends
on the lines. -/

namespace Sys2Proof.Machine

/-- The received direction by the code of the lines (R119). -/
theorem receiveFlags_eq (f : BitVec 3) (l : LastDir) :
    receiveFlags f l = match f.toNat with
      | 1 => .right
      | 2 => .left
      | 4 => .paused
      | _ => l := by
  obtain ⟨n, hn, rfl⟩ : ∃ n < 8, f = BitVec.ofNat 3 n := ⟨f.toNat, f.isLt, by simp⟩
  interval_cases n <;> rfl

theorem TickOf.rx_eq {s t : State} (ht : TickOf s t) (hr : s.nextInput.rst = false) :
    t.cur.rx = { flagInS := s.nextInput.flagIn, lastDir := receiveFlags s.nextInput.flagIn s.cur.rx.lastDir } := by
  rw [ht.rx, unitsRun_rx]
  simp [rxPart, hr]

/-! ### The host's write under the same transaction -/

section
variable {i j : Inputs} (h : SameBus i j)
include h

theorem SameBus.wdata : i.wdata = j.wdata := by
  obtain ⟨-, -, -, -, hwdata⟩ := h
  exact hwdata

theorem SameBus.stepCmd : stepCmd i = stepCmd j := by
  rw [Machine.stepCmd, Machine.stepCmd, SameBus.writesTo h, SameBus.wdata h]

theorem hostSys_congr (r : Regs) (y : SysRegs) : hostSys i r y = hostSys j r y := by
  simp -zeta only [hostSys, SameBus.writesTo h, SameBus.wdata h]

theorem hostZc_congr (r : Regs) (z : ZcRegs) : hostZc i r z = hostZc j r z := by
  simp -zeta only [hostZc, SameBus.writesTo h, SameBus.stepCmd h, SameBus.wdata h]

theorem hostPid_congr (r : Regs) (p : PidRegs) : hostPid i r p = hostPid j r p := by
  simp -zeta only [hostPid, SameBus.writesTo h, SameBus.stepCmd h, SameBus.wdata h]

theorem hostDb_congr (d : DbRegs) : hostDb i d = hostDb j d := by
  simp -zeta only [hostDb, SameBus.writesTo h, SameBus.wdata h]

end

/-! ### Other lines -/

/-- `s` with other flag lines in its next tick. -/
def State.withLines (s : State) (f : BitVec 3) : State := s.given { s.nextInput with flagIn := f }

theorem sameBus_withLines (s : State) (f : BitVec 3) : SameBus (s.withLines f).nextInput s.nextInput :=
  ⟨rfl, rfl, rfl, rfl, rfl⟩

theorem withLines_cur (s : State) (f : BitVec 3) : (s.withLines f).cur = s.cur := rfl

section
variable (s : State) (f : BitVec 3)

/-! No operation but the receiver's own reads `flag_in` (R318). -/

theorem sysPart_withLines (i : Instr) (y : SysRegs) :
    sysPart (beginTick (s.withLines f)) i y = sysPart (beginTick s) i y := by cases i <;> rfl

theorem zcPart_withLines (i : Instr) (z : ZcRegs) :
    zcPart (beginTick (s.withLines f)) i z = zcPart (beginTick s) i z := by cases i <;> rfl

theorem pidPart_withLines (i : Instr) (p : PidRegs) :
    pidPart (beginTick (s.withLines f)) i p = pidPart (beginTick s) i p := by cases i <;> rfl

theorem acceptPart_withLines (b : Btn) (l : Bool) (d : DbRegs) :
    acceptPart (beginTick (s.withLines f)) b l d = acceptPart (beginTick s) b l d := rfl

theorem decPart_withLines (b : Btn) (d : DbRegs) :
    decPart (beginTick (s.withLines f)) b d = decPart (beginTick s) b d := rfl

theorem motPart_withLines (i : Instr) (m : MotRegs) :
    motPart (beginTick (s.withLines f)) i m = motPart (beginTick s) i m := by cases i <;> rfl

end

/-- The units but the receiver leave the same registers under other lines. -/
theorem unitsRun_withLines (s : State) (f : BitVec 3) :
    (unitsRun (s.withLines f)).nxt.sys = (unitsRun s).nxt.sys ∧ (unitsRun (s.withLines f)).nxt.zc = (unitsRun s).nxt.zc ∧
    (unitsRun (s.withLines f)).nxt.pid = (unitsRun s).nxt.pid ∧ (unitsRun (s.withLines f)).nxt.db = (unitsRun s).nxt.db ∧
    (unitsRun (s.withLines f)).nxt.mot = (unitsRun s).nxt.mot := by
  refine ⟨?_, ?_, ?_, ?_, ?_⟩
  · simp only [unitsRun_sys, sysPart_withLines]
    rfl
  · simp only [unitsRun_zc, zcPart_withLines]
    rfl
  · simp only [unitsRun_pid, pidPart_withLines]
    rfl
  · simp only [unitsRun_db, acceptPart_withLines, decPart_withLines]
    rfl
  · simp only [unitsRun_mot, motPart_withLines]
    rfl

/-- The events of a tick do not depend on the lines (R99, R318). -/
theorem event_withLines {s t u : State} {f : BitVec 3} (ht : TickOf s t) (hu : TickOf (s.withLines f) u)
    (hr : s.nextInput.rst = false) : u.cur.sys.event = t.cur.sys.event := by
  apply BitVec.eq_of_getLsbD_eq
  intro k hk
  rw [Bool.eq_iff_iff, ht.event_bit hr hk, hu.event_bit hr hk]
  rfl

/-- Two register files whose groups agree, the receiver's apart. -/
theorem regs_eq_of_groups {r q : Regs} (hnow : r.sys.now = q.sys.now) (hirqEn : r.sys.irqEn = q.sys.irqEn)
    (hevent : r.sys.event = q.sys.event) (hzc : r.zc = q.zc) (hpid : r.pid = q.pid) (hdb : r.db = q.db)
    (hmot : r.mot = q.mot) : r = { q with rx := r.rx } := by
  obtain ⟨⟨now, event, irqEn⟩, zc, pid, db, mot, rx⟩ := r
  obtain rfl := hnow
  obtain rfl := hirqEn
  obtain rfl := hevent
  obtain rfl := hzc
  obtain rfl := hpid
  obtain rfl := hdb
  obtain rfl := hmot
  rfl

/-- Under other lines a tick leaves every register but `FLAG_RX` as it is (R318). -/
theorem TickOf.cur_withLines {s t u : State} {f : BitVec 3} (ht : TickOf s t) (hu : TickOf (s.withLines f) u)
    (hr : s.nextInput.rst = false) : u.cur = { t.cur with rx := u.cur.rx } := by
  obtain ⟨hsys, hzc, hpid, hdb, hmot⟩ := unitsRun_withLines s f
  have hbus := sameBus_withLines s f
  apply regs_eq_of_groups
  · rw [ht.now, hu.now, hsys, withLines_cur, hostSys_congr hbus]
  · rw [ht.irqEn, hu.irqEn, hsys, withLines_cur, hostSys_congr hbus]
  · exact event_withLines ht hu hr
  · rw [ht.zc, hu.zc, hzc, withLines_cur, hostZc_congr hbus]
  · rw [ht.pid, hu.pid, hpid, withLines_cur, hostPid_congr hbus]
  · rw [ht.db, hu.db, hdb, hostDb_congr hbus]
  · rw [ht.mot, hu.mot, hmot, hostMot_congr hbus]

/-- The transaction is answered from `S_t`, whatever the lines (R140). -/
theorem TickOf.resp_withLines {s t u : State} {f : BitVec 3} (ht : TickOf s t) (hu : TickOf (s.withLines f) u) :
    u.resp = t.resp := by
  have hcur : (unitsRun (s.withLines f)).cur = (unitsRun s).cur :=
    (unitsRun_sameTick (s.withLines f)).cur.trans (unitsRun_sameTick s).cur.symm
  rw [ht.resp, hu.resp]
  exact busResponse_congr rfl hcur

/-- Settles O46: the receiver's group of the tick, and the comparison with the tick under other lines. -/
theorem flagReceiverTick : Obligations.FlagReceiverTick := by
  unfold Obligations.FlagReceiverTick
  intro s hr
  have ht := tickOf_ticked hr
  refine ⟨⟨ticked s, step_eq_ticked s, ?_⟩, fun f => ?_⟩
  · rw [ht.rx_eq hr]
    exact ⟨rfl, receiveFlags_eq _ _⟩
  · have hu : TickOf (s.withLines f) (ticked (s.withLines f)) := tickOf_ticked hr
    exact ⟨ticked s, ticked (s.withLines f), step_eq_ticked s, step_eq_ticked _, ht.cur_withLines hu hr, ht.resp_withLines hu⟩

end Sys2Proof.Machine

/-! PROOF. The single bus operations (40_bus_ops.md): the transaction word of each, by the index of its register, and what each contributes to a
tick. -/

namespace Sys2Proof

/-! ### Transaction words by register -/

/-- A read of the register of index `k` is the operation of that register (R113, R170). -/
theorem decodeBus_read (k : Nat) (d : Word) (hk : k < readOps.length := by decide) :
    decodeBus (1#1 ++ 0#1 ++ regAddr k ++ d) = readOps[k] :=
  (decodeBus_busWord false (regAddr k) d).trans (decodeFields_read hk d)

/-- A write of the register of index `k` is the operation of that register (R113). -/
theorem decodeBus_write (k : Nat) (d : Word) (hk : k < 39 := by decide) :
    decodeBus (1#1 ++ 1#1 ++ regAddr k ++ d) = (writeOps d)[k]'hk :=
  (decodeBus_busWord true (regAddr k) d).trans (decodeFields_write d hk)

end Sys2Proof

namespace Sys2Proof.Machine

/-! ### Answers -/

/-- A read as an outcome (R170). -/
theorem next_hostRead (r : Reg) (s : State) :
    (.next (hostRead r s) : Host.Outcome State Fault Refusal) = .next (s.replied (regRead r s.cur)) :=
  congrArg _ (hostRead_eq r s)

/-- A bus error as an outcome (R341). -/
theorem next_raiseBusError (c : BusCause) (s : State) :
    (.next (raiseBusError c s) : Host.Outcome State Fault Refusal) = .next (s.rejected c) :=
  congrArg _ (raiseBusError_eq c s)

/-- A legal write as an outcome (R140). -/
theorem next_hostWrite (f : State → State) (s : State) :
    (.next (hostWrite f s) : Host.Outcome State Fault Refusal) =
      .next (if s.inp.rst then s.replied 0 else f (s.replied 0)) := by
  rcases hostWrite_cases f s with ⟨hr, h⟩ | ⟨hr, h⟩ <;> simp [h, hr]

/-- A plain store as an outcome (R145). -/
theorem next_hostStore (r : Reg) (d : Word) (s : State) :
    (.next (hostStore r d s) : Host.Outcome State Fault Refusal) =
      .next (if s.inp.rst then s.replied 0 else { s.replied 0 with nxt := regWrite r d s.nxt }) :=
  next_hostWrite (fun u => u.updRegs (regWrite r d)) s

/-- Settles O12: `V = 0` is tested first, and `NOP` is the idle response. -/
theorem nopAnswersNothing : Obligations.NopAnswersNothing := by
  unfold Obligations.NopAnswersNothing
  exact ⟨fun w a d => decodeBus_twOf false w a d, fun _ => rfl⟩

/-! ### Reads -/

/-- The image of `STATUS` with `irq`, `DRIVE` and `TIMER_ACTIVE` written out (R33, R172). -/
theorem statusImage_eq (r : Regs) : statusImage r =
    0#20 ++ BitVec.ofBool (decide (r.sys.event &&& r.sys.irqEn ≠ 0)) ++
      BitVec.ofBool (decide (r.mot.dir ≠ .none ∧ r.mot.paused = false)) ++ r.db.prev ++ BitVec.ofBool r.zc.zcPrev ++
      BitVec.ofBool r.zc.periodValid ++ BitVec.ofBool r.zc.haveEdge ++ BitVec.ofBool (decide (r.zc.dlyCnt ≠ 0)) ++
      BitVec.ofBool r.zc.triac := by
  have hirq : irq r = decide (r.sys.event &&& r.sys.irqEn ≠ 0) := by
    rw [irq, Bool.eq_iff_iff, bne_iff_ne, decide_eq_true_eq]
    rfl
  have hdrive : drive r.mot = decide (r.mot.dir ≠ .none ∧ r.mot.paused = false) := by
    rw [Bool.eq_iff_iff, drive_iff, decide_eq_true_eq]
  have htimer : timerActive r.zc = decide (r.zc.dlyCnt ≠ 0) := by
    rw [timerActive, Bool.eq_iff_iff, bne_iff_ne, decide_eq_true_eq]
    rfl
  rw [statusImage, hirq, hdrive, htimer]

/-- Settles O13: each register's image, that of `STATUS` by `statusImage_eq`. -/
theorem readsOfControlEventsAndTime : Obligations.ReadsOfControlEventsAndTime := by
  unfold Obligations.ReadsOfControlEventsAndTime
  intro s d
  rw [← statusImage_eq]
  exact ⟨decodeBus_read 0 d, next_hostRead .ctrl s,
    decodeBus_read 1 d, next_hostRead .status s,
    decodeBus_read 2 d, next_hostRead .event s,
    decodeBus_read 3 d, next_hostRead .irqEn s,
    decodeBus_read 4 d, next_hostRead .now s⟩

/-- Settles O14: each image is the register. -/
theorem readsOfTheZeroCrossUnit : Obligations.ReadsOfTheZeroCrossUnit := by
  unfold Obligations.ReadsOfTheZeroCrossUnit
  intro s d
  exact ⟨decodeBus_read 5 d, next_hostRead .lastCross s,
    decodeBus_read 6 d, next_hostRead .period s,
    decodeBus_read 7 d, next_hostRead .fireDelay s,
    decodeBus_read 8 d, next_hostRead .dlyCnt s,
    decodeBus_read 9 d, next_hostRead .guard s,
    decodeBus_read 10 d, next_hostRead .zcTimeout s,
    decodeBus_read 11 d, next_hostRead .zcSilence s⟩

/-- Settles O15: each image is the register. -/
theorem readsOfThePidParameters : Obligations.ReadsOfThePidParameters := by
  unfold Obligations.ReadsOfThePidParameters
  intro s d
  exact ⟨decodeBus_read 12 d, next_hostRead .temp s,
    decodeBus_read 13 d, next_hostRead .setpoint s,
    decodeBus_read 14 d, next_hostRead .spStep s,
    decodeBus_read 15 d, next_hostRead .spMin s,
    decodeBus_read 16 d, next_hostRead .spMax s,
    decodeBus_read 17 d, next_hostRead .q0 s,
    decodeBus_read 18 d, next_hostRead .q1 s,
    decodeBus_read 19 d, next_hostRead .q2 s⟩

/-- Settles O16: each image is the register, and that of `PID_CMD` is 0. -/
theorem readsOfThePidResults : Obligations.ReadsOfThePidResults := by
  unfold Obligations.ReadsOfThePidResults
  intro s d
  exact ⟨decodeBus_read 20 d, next_hostRead .e1 s,
    decodeBus_read 21 d, next_hostRead .e2 s,
    decodeBus_read 22 d, next_hostRead .pidOut s,
    decodeBus_read 23 d, next_hostRead .pidRaw s,
    decodeBus_read 24 d, next_hostRead .ts s,
    decodeBus_read 25 d, next_hostRead .tsCnt s,
    decodeBus_read 26 d, next_hostRead .sampleCount s,
    decodeBus_read 27 d, next_hostRead .pidCmd s⟩

/-- Settles O17: each image as `regRead` gives it, `MOTION` and `FLAG_RX` with their fields. -/
theorem readsOfLatchesMotionAndFlags : Obligations.ReadsOfLatchesMotionAndFlags := by
  unfold Obligations.ReadsOfLatchesMotionAndFlags
  intro s d
  exact ⟨decodeBus_read 28 d, next_hostRead .dbWindow s,
    decodeBus_read 29 d, next_hostRead .btnPol s,
    decodeBus_read 30 d, next_hostRead .dbHold0 s,
    decodeBus_read 31 d, next_hostRead .dbHold1 s,
    decodeBus_read 32 d, next_hostRead .dbHold2 s,
    decodeBus_read 33 d, next_hostRead .dbHold3 s,
    decodeBus_read 34 d, next_hostRead .dbHold4 s,
    decodeBus_read 35 d, next_hostRead .motion s,
    decodeBus_read 36 d, next_hostRead .stepHalf s,
    decodeBus_read 37 d, next_hostRead .stepCnt s,
    decodeBus_read 38 d, next_hostRead .flagRx s⟩

/-! ### Writes -/

/-- Settles O18: each is the plain store of its register. -/
theorem plainStoresOutsideThePidUnit : Obligations.PlainStoresOutsideThePidUnit := by
  unfold Obligations.PlainStoresOutsideThePidUnit
  intro s d
  exact ⟨decodeBus_write 3 d, next_hostStore .irqEn d s,
    decodeBus_write 7 d, next_hostStore .fireDelay d s,
    decodeBus_write 9 d, next_hostStore .guard d s,
    decodeBus_write 10 d, next_hostStore .zcTimeout d s,
    decodeBus_write 28 d, next_hostStore .dbWindow d s,
    decodeBus_write 29 d, next_hostStore .btnPol d s,
    decodeBus_write 36 d, next_hostStore .stepHalf d s⟩

/-- Settles O19: each is the plain store of its register. -/
theorem plainStoresOfThePidUnit : Obligations.PlainStoresOfThePidUnit := by
  unfold Obligations.PlainStoresOfThePidUnit
  intro s d
  exact ⟨decodeBus_write 12 d, next_hostStore .temp d s,
    decodeBus_write 13 d, next_hostStore .setpoint d s,
    decodeBus_write 14 d, next_hostStore .spStep d s,
    decodeBus_write 15 d, next_hostStore .spMin d s,
    decodeBus_write 16 d, next_hostStore .spMax d s,
    decodeBus_write 17 d, next_hostStore .q0 d s,
    decodeBus_write 18 d, next_hostStore .q1 d s,
    decodeBus_write 19 d, next_hostStore .q2 d s,
    decodeBus_write 24 d, next_hostStore .ts d s⟩

/-- `WR.CTRL` on the registers: `HEAT_EN`, and with `D[0] = 0` the idle zero-cross unit (R141). -/
def ctrlRegs (d : Word) (r : Regs) : Regs :=
  { r with
    zc := if d.getLsbD 0 then { r.zc with heatEn := true }
      else { r.zc with heatEn := false, triac := false, dlyCnt := 0, haveEdge := false, zcSilence := 0 } }

theorem ctrlRegs_of_enable {d : Word} (hd : d.getLsbD 0 = true) (r : Regs) :
    ctrlRegs d r = { r with zc := { r.zc with heatEn := true } } := by
  rw [ctrlRegs, if_pos hd]

theorem ctrlRegs_of_kill {d : Word} (hd : d.getLsbD 0 = false) (r : Regs) : ctrlRegs d r =
    { r with zc := { r.zc with heatEn := false, triac := false, dlyCnt := 0, haveEdge := false, zcSilence := 0 } } := by
  rw [ctrlRegs, if_neg (Bool.eq_false_iff.1 hd)]

theorem ctrlRegs_heatEn (d : Word) (r : Regs) : (ctrlRegs d r).zc.heatEn = d.getLsbD 0 := by
  cases hd : d.getLsbD 0
  · rw [ctrlRegs_of_kill hd]
  · rw [ctrlRegs_of_enable hd]

theorem exec_wrCtrl (d : Word) (s : State) : exec (.wrCtrl d) s =
    .next (if s.inp.rst then s.replied 0 else { s.replied 0 with nxt := ctrlRegs d s.nxt }) := by
  rw [exec, execWrCtrl, next_hostWrite, ctrlRegs]
  cases d.getLsbD 0 <;> rfl

/-- Settles O20: the two writes with effects of their own. -/
theorem controlAndEventWrites : Obligations.ControlAndEventWrites := by
  unfold Obligations.ControlAndEventWrites
  intro s d
  exact ⟨decodeBus_write 0 d, decodeBus_write 2 d, exec_wrCtrl d s, next_hostWrite _ s⟩

/-! ### Errors -/

/-- Settles O21: at each of the twenty indices the write is the bus error. -/
theorem readOnlyWritesRaiseTheBusError : Obligations.ReadOnlyWritesRaiseTheBusError := by
  unfold Obligations.ReadOnlyWritesRaiseTheBusError
  intro s d
  have hraise := next_raiseBusError .writeRo s
  exact ⟨decodeBus_write 1 d, hraise, decodeBus_write 4 d, hraise, decodeBus_write 5 d, hraise,
    decodeBus_write 6 d, hraise, decodeBus_write 8 d, hraise, decodeBus_write 11 d, hraise,
    decodeBus_write 20 d, hraise, decodeBus_write 21 d, hraise, decodeBus_write 22 d, hraise,
    decodeBus_write 23 d, hraise, decodeBus_write 25 d, hraise, decodeBus_write 26 d, hraise,
    decodeBus_write 30 d, hraise, decodeBus_write 31 d, hraise, decodeBus_write 32 d, hraise,
    decodeBus_write 33 d, hraise, decodeBus_write 34 d, hraise, decodeBus_write 35 d, hraise,
    decodeBus_write 37 d, hraise, decodeBus_write 38 d, hraise⟩

/-- Settles O22: alignment is tested before the map (R113), and both answers are the bus error. -/
theorem addressErrorsRaiseTheBusError : Obligations.AddressErrorsRaiseTheBusError := by
  unfold Obligations.AddressErrorsRaiseTheBusError
  intro s w a d
  have hdecode := decodeBus_busWord w a d
  exact ⟨fun h hhigh => ⟨hdecode.trans (decodeFields_unmapped h hhigh w d), next_raiseBusError .unmapped s⟩,
    fun h => ⟨hdecode.trans (decodeFields_misaligned h w d), next_raiseBusError .misaligned s⟩⟩

end Sys2Proof.Machine

/-! PROOF. One sample, as an operation (R260 to R268): what it writes, in the integers of the rules, by `PID.SAMPLE` and by `WR.PID_CMD` alike
(log 9). -/

namespace Sys2Proof.Machine

/-! ### The values of a sample -/

theorem sampleError_toInt (p : PidRegs) : (wordOfInt (sampleError p)).toInt = errorOf p := by
  rw [← sampleError_eq]
  obtain ⟨hlo, hhi⟩ := clampInt_le (p.setpoint.toInt - p.temp.toInt) (lo := -2147483648) (hi := 2147483647) (by decide)
  exact wordOfInt_toInt hlo hhi

theorem sampleRaw_toInt (p : PidRegs) :
    (wordOfInt (satS32 (sampleRaw p))).toInt = max (-2 ^ 31) (min (2 ^ 31 - 1) (rawOf p)) := by
  obtain ⟨hlo, hhi⟩ := clampInt_le (sampleRaw p) (lo := -2147483648) (hi := 2147483647) (by decide)
  rw [satS32, wordOfInt_toInt hlo hhi, sampleRaw_eq]
  rfl

theorem sampleOut_toNat (p : PidRegs) : ((wordOfInt (sampleOut p)).toNat : Int) = powerOf p := by
  obtain ⟨hlo, hhi⟩ : 0 ≤ sampleOut p ∧ sampleOut p ≤ 6553600 := clampInt_le _ (by decide)
  rw [wordOfInt_toNat hlo (by omega), sampleOut_eq]

/-- The events of a sample as one number: `PID_DONE`, and the side the raw value is out of range on (R264, R268). -/
theorem sampleEvents_eq (p : PidRegs) : sampleEvents p =
    BitVec.ofNat 13 (0x20 + (if rawOf p < 0 then 0x40 else 0) + (if 6553600 < rawOf p then 0x80 else 0)) := by
  have hmax : (Config.uMax : Int) = 6553600 := rfl
  rw [sampleEvents, sampleRaw_eq, hmax]
  by_cases hlo : rawOf p < 0 <;> by_cases hhi : 6553600 < rawOf p <;> simp only [hlo, hhi, if_true, if_false] <;> rfl

/-! ### The two operations -/

theorem exec_pidSample (s : State) :
    exec .pidSample s = .next (if Samples s.cur s.inp then takeSample s else s) := by
  rw [exec, execPidSample, State.when_eq_ite (by rw [sampleDue_eq, decide_eq_true_eq])]

theorem exec_wrPidCmd (d : Word) (s : State) : exec (.wrPidCmd d) s =
    .next (if s.inp.rst = false ∧ d.getLsbD 0 = true then takeSample (s.replied 0) else s.replied 0) := by
  rw [exec, execWrPidCmd, next_hostWrite]
  cases s.inp.rst <;> cases d.getLsbD 0 <;> rfl

/-- Settles O27: both operations are `takeSample` in their conditions, and its words have the values of the rules. -/
theorem sampleOperations : Obligations.SampleOperations := by
  unfold Obligations.SampleOperations
  intro s d
  refine ⟨decodeBus_write 27 d, fun h => ?_, fun h => ?_, _, _, _, _, sampleError_toInt s.cur.pid,
    sampleRaw_toInt s.cur.pid, sampleOut_toNat s.cur.pid, sampleDelay_toNat s.cur, ?_⟩
  · rw [exec_pidSample, if_neg h]
  · rw [exec_wrPidCmd, if_neg]
    rintro ⟨hr, hd⟩
    rw [hr, hd] at h
    exact absurd h (by decide)
  · dsimp only
    have htake (u : State) := takeSample_eq u
    simp only [sampleEvents_eq, succ_eq_ofNat] at htake
    refine ⟨fun h => ?_, fun hr hd => ?_⟩
    · rw [exec_pidSample, if_pos h, htake]
    · rw [exec_wrPidCmd, if_pos ⟨hr, hd⟩, htake]
      rfl

end Sys2Proof.Machine

/-! PROOF. The bus response of a whole tick, in a reset tick too (R140). -/

namespace Sys2Proof.Machine

/-- The bus operation comes last, and the end of the tick keeps its response. -/
theorem ticked_resp (s : State) : (ticked s).resp = busResponse s.nextInput s := by
  have hlast : (ticked s).resp =
      busResponse s.nextInput (effects (decodePins s.nextInput.pv ++ internalOps) (beginTick s)) := by
    rw [ticked, schedule, effects_append]
    rfl
  rw [hlast]
  exact busResponse_congr rfl (sameTick_effects _ (beginTick s)).cur

/-- Settles O9: `ticked_resp`, and a bus operation answers from `S_t` alone. -/
theorem responseComesFromTheStateBeforeTheTick : Obligations.ResponseComesFromTheStateBeforeTheTick := by
  unfold Obligations.ResponseComesFromTheStateBeforeTheTick
  intro s t u v hcur ht hu
  obtain rfl := step_next_iff.1 ht
  rw [exec_eq_effect] at hu
  obtain rfl := Host.Outcome.next.inj hu
  rw [ticked_resp]
  exact (busResponse_congr rfl hcur).symm

end Sys2Proof.Machine

/-! PROOF. The tick with a transaction and the tick without one (R140): the units do the same in two ticks that agree on the pins, on `heat_on` and
on `step_cmd`, so what is left is the bus operation. -/

namespace Sys2Proof.Machine

/-! ### What the units see of a transaction -/

/-- The ticks of `s` and `s'` are one for the units: they start from the same registers with the same pins, and their transactions say the same
of `heat_on` and `step_cmd` (R230, R260). -/
structure SameUnits (s s' : State) : Prop where
  cur : s.cur = s'.cur
  rst : s.inp.rst = s'.inp.rst
  zcIn : s.inp.zcIn = s'.inp.zcIn
  btn : s.inp.btn = s'.inp.btn
  flagIn : s.inp.flagIn = s'.inp.flagIn
  heatOn : heatOn s = heatOn s'
  stepCmd : stepCmd s.inp = stepCmd s'.inp

namespace SameUnits

variable {s s' : State} (h : SameUnits s s')
include h

theorem crossing : crossing s = crossing s' := by
  simp only [Machine.crossing, zcEdge, h.rst, h.heatOn, h.zcIn, h.cur]

theorem unitOff : unitOff s = unitOff s' := by
  simp only [Machine.unitOff, h.rst, h.heatOn]

theorem quiet : quiet s = quiet s' := by
  simp only [Machine.quiet, zcEdge, h.rst, h.heatOn, h.zcIn, h.cur]

theorem crossPeriod : crossPeriod s = crossPeriod s' := by
  simp only [Machine.crossPeriod, h.cur]

theorem sampleDue : sampleDue s = sampleDue s' := by
  simp only [Machine.sampleDue, h.rst, h.stepCmd, h.cur]

theorem accepted (b : Btn) (l : Bool) : accepted s b l = accepted s' b l := by
  simp only [Machine.accepted, h.rst, h.cur]

theorem sysPart : sysPart s = sysPart s' := by
  funext i y
  cases i <;> simp only [Machine.sysPart, h.rst, h.cur]

theorem zcPart : zcPart s = zcPart s' := by
  funext i z
  cases i <;> simp only [Machine.zcPart, h.crossing, h.unitOff, h.quiet, h.crossPeriod, h.sampleDue, h.cur]

theorem pidPart : pidPart s = pidPart s' := by
  funext i p
  cases i <;> simp only [Machine.pidPart, h.accepted, h.sampleDue, h.rst, h.cur]

theorem acceptPart (b : Btn) (l : Bool) (d : DbRegs) : acceptPart s b l d = acceptPart s' b l d := by
  simp only [Machine.acceptPart, h.accepted, h.cur]

theorem decPart (b : Btn) (d : DbRegs) : decPart s b d = decPart s' b d := by
  have hlevel : btnLevel s.inp b = btnLevel s'.inp b := by rw [btnLevel, btnLevel, h.btn]
  simp only [Machine.decPart, hlevel, h.accepted, h.rst, h.cur]

theorem dbPart : dbPart s = dbPart s' := by
  funext i d
  cases i <;> simp only [Machine.dbPart, h.acceptPart, h.decPart]

theorem motPart : motPart s = motPart s' := by
  funext i m
  cases i <;> simp only [Machine.motPart, h.accepted, h.rst, h.cur]

theorem rxPart : rxPart s = rxPart s' := by
  funext i x
  cases i <;> simp only [Machine.rxPart, h.rst, h.cur]

theorem evPart : evPart s = evPart s' := by
  funext i
  cases i <;> simp only [Machine.evPart, accMask, h.accepted, h.crossing, h.quiet, h.crossPeriod, h.sampleDue, h.cur]

theorem unitOps : unitOps s.inp = unitOps s'.inp := by
  simp only [Machine.unitOps, h.btn, h.flagIn]

end SameUnits

theorem regs_ext {r q : Regs} (hsys : r.sys = q.sys) (hzc : r.zc = q.zc) (hpid : r.pid = q.pid) (hdb : r.db = q.db)
    (hmot : r.mot = q.mot) (hrx : r.rx = q.rx) : r = q := by
  cases r
  cases q
  simp_all only

/-- The units leave the same registers and events in two ticks that are one for them. -/
theorem SameUnits.unitsRun {s s' : State} (h : SameUnits (beginTick s) (beginTick s')) :
    (unitsRun s).nxt = (unitsRun s').nxt ∧ (unitsRun s).evSet = (unitsRun s').evSet := by
  have hops : Machine.unitOps s.nextInput = Machine.unitOps s'.nextInput := h.unitOps
  have hstart : (beginTick s).nxt = (beginTick s').nxt := by
    show samplePins s.nextInput s.cur = samplePins s'.nextInput s'.cur
    simp only [samplePins, show s.cur = s'.cur from h.cur, show s.nextInput.zcIn = s'.nextInput.zcIn from h.zcIn,
      show s.nextInput.btn = s'.nextInput.btn from h.btn]
  obtain ⟨hsys, hzc, hpid, hdb, hmot, hrx, hev⟩ := effects_parts _ (unitOps_isUnitOp s.nextInput) (.refl (beginTick s))
  obtain ⟨hsys', hzc', hpid', hdb', hmot', hrx', hev'⟩ :=
    effects_parts _ (unitOps_isUnitOp s'.nextInput) (.refl (beginTick s'))
  rw [Machine.unitsRun, Machine.unitsRun]
  refine ⟨regs_ext ?_ ?_ ?_ ?_ ?_ ?_, ?_⟩
  · rw [hsys, hsys', h.sysPart, hops, hstart]
  · rw [hzc, hzc', h.zcPart, hops, hstart]
  · rw [hpid, hpid', h.pidPart, hops, hstart]
  · rw [hdb, hdb', h.dbPart, hops, hstart]
  · rw [hmot, hmot', h.motPart, hops, hstart]
  · rw [hrx, hrx', h.rxPart, hops, hstart]
  · rw [hev, hev', h.evPart, hops]
    rfl

/-! ### A tick next to the silent one -/

theorem given_nextInput (s : State) (i : Inputs) : (s.given i).nextInput = i := rfl

theorem unitsRun_rst {i : Inputs} (hr : i.rst = false) (s : State) : (unitsRun (s.given i)).inp.rst = false := by
  rw [(unitsRun_sameTick (s.given i)).inp, beginTick_inp, given_nextInput, hr]

/-- A tick without reset is its units and then its bus operation. -/
theorem ticked_given {i : Inputs} (hr : i.rst = false) (s : State) :
    ticked (s.given i) = commitTick (effect (decodeBus i.tw) (unitsRun (s.given i))) := by
  rw [ticked, effects_schedule (s := s.given i) hr, given_nextInput]

theorem ticked_given_resp (s : State) (i : Inputs) :
    (ticked (s.given i)).resp = (effect (decodeBus i.tw) (s.given i)).resp := by
  rw [ticked_resp, busResponse, given_nextInput]

theorem ticked_silent_cur {i : Inputs} (hr : i.rst = false) (s : State) : (ticked (s.given i.silent)).cur =
    mergeEvents (unitsRun (s.given i.silent)).nxt (unitsRun (s.given i.silent)).evSet := by
  have hnop : decodeBus i.silent.tw = .nop := decodeBus_twOf false i.write i.addr i.wdata
  have hcommit (u : State) : (commitTick (effect .nop u)).cur = mergeEvents u.nxt u.evSet := rfl
  rw [ticked_given (i := i.silent) hr, hnop, hcommit]

/-- `i` is `j` with another transaction. -/
structure SamePins (i j : Inputs) : Prop where
  rst : i.rst = j.rst
  zcIn : i.zcIn = j.zcIn
  btn : i.btn = j.btn
  flagIn : i.flagIn = j.flagIn

/-- The units do not see a transaction that commands no sample, and kills no unit or one that is disabled. -/
theorem sameUnits_silent {s : State} {i j : Inputs} (hpins : SamePins i j)
    (hkill : kill i = false ∨ s.cur.zc.heatEn = false) (hcmd : stepCmd i = false) :
    SameUnits (beginTick (s.given i)) (beginTick (s.given j.silent)) where
  cur := rfl
  rst := hpins.rst
  zcIn := hpins.zcIn
  btn := hpins.btn
  flagIn := hpins.flagIn
  heatOn := by
    show (s.cur.zc.heatEn && !syncLost s.cur && !kill i) = (s.cur.zc.heatEn && !syncLost s.cur && !kill j.silent)
    rcases hkill with h | h
    · rw [h]
      rfl
    · rw [h, Bool.false_and, Bool.false_and, Bool.false_and]
  stepCmd := hcmd

/-- Where the units do not see the transaction, the tick is the silent tick with what the bus operation does to the registers. -/
theorem ticked_cur_of_op {s : State} {i j : Inputs} {f : Regs → Regs} (hr : i.rst = false)
    (hunits : SameUnits (beginTick (s.given i)) (beginTick (s.given j.silent)))
    (hop : ∀ u, u.inp.rst = false →
      (effect (decodeBus i.tw) u).nxt = f u.nxt ∧ (effect (decodeBus i.tw) u).evSet = u.evSet)
    (hmerge : ∀ q e, mergeEvents (f q) e = f (mergeEvents q e)) :
    (ticked (s.given i)).cur = f (ticked (s.given j.silent)).cur := by
  have hrj : j.rst = false := hunits.rst.symm.trans hr
  have hinp : (unitsRun (s.given i)).inp.rst = false := unitsRun_rst hr s
  obtain ⟨hnxt, hev⟩ := hop _ hinp
  obtain ⟨hregs, hset⟩ := hunits.unitsRun
  rw [ticked_silent_cur hrj, ← hmerge, ← hregs, ← hset, ← hnxt, ← hev, ticked_given hr]
  rfl

end Sys2Proof.Machine

/-! PROOF. Reads, plain stores and `WR.CTRL` in a whole tick, next to the same tick without a transaction (R141, R145, R170). -/

namespace Sys2Proof.Machine

/-! ### Reads -/

/-- The input vector with a read of the register of index `k`. -/
abbrev Inputs.reading (i : Inputs) (k : Nat) (d : Word) : Inputs :=
  { i with valid := true, write := false, addr := regAddr k, wdata := d }

theorem decodeBus_reading (i : Inputs) {k : Nat} (hk : k < readOps.length) (d : Word) :
    decodeBus (i.reading k d).tw = readOps[k] := decodeBus_read k d hk

/-- A read leaves every register as the silent tick does, in a reset tick too (R170). -/
theorem ticked_reading_cur (s : State) (i : Inputs) {k : Nat} (hk : k < readOps.length) (d : Word) :
    (ticked (s.given (i.reading k d))).cur = (ticked (s.given i.silent)).cur := by
  cases hr : i.rst
  case true =>
    rw [ticked_cur_of_rst (s := s.given (i.reading k d)) hr, ticked_cur_of_rst (s := s.given i.silent) hr]
    rfl
  case false =>
    obtain ⟨r, hread⟩ := effect_read hk
    refine ticked_cur_of_op (f := id) hr (sameUnits_silent ⟨rfl, rfl, rfl, rfl⟩ (.inl rfl) rfl) (fun u _ => ?_)
      fun _ _ => rfl
    rw [decodeBus_reading i hk, hread]
    exact ⟨rfl, rfl⟩

/-- Settles O50: the state by `ticked_reading_cur`, the answer from `S_t` by `ticked_resp`. -/
theorem readsChangeNothing : Obligations.ReadsChangeNothing := by
  unfold Obligations.ReadsChangeNothing
  intro s i k d hk
  have hk' : k < readOps.length := hk
  obtain ⟨r, hread⟩ := effect_read hk'
  refine ⟨ticked (s.given (i.reading k d)), _, _, _, step_eq_ticked _, step_eq_ticked _, ticked_reading_cur s i hk' d,
    decodeBus_read k d hk', exec_eq_effect _ s, ?_⟩
  rw [ticked_given_resp, decodeBus_reading i hk', hread, hread]
  rfl

/-! ### Plain stores -/

theorem decodeBus_storing (i : Inputs) {k : Nat} (d : Word) (hk : k < (writeOps d).length) :
    decodeBus (i.storing (regAddr k) d).tw = (writeOps d)[k] := decodeBus_write k d hk

/-- A write to the register of index `k` is one to no other. -/
theorem writesTo_storing_other (i : Inputs) (d : Word) {k n : Nat} (hk : k < 39) (hn : n < 39) (h : k ≠ n) :
    writesTo (i.storing (regAddr k) d) (regAddr n) = false := by
  show (regAddr k == regAddr n) = false
  rw [beq_eq_false_iff_ne, ne_eq, ← BitVec.toNat_inj, regAddr_toNat hk, regAddr_toNat hn]
  omega

/-- No plain store touches `EVENT`, so the events of the tick join it all the same (R99). -/
theorem mergeEvents_regWrite (r : Reg) (d : Word) (q : Regs) (e : Events) :
    mergeEvents (regWrite r d q) e = regWrite r d (mergeEvents q e) := by
  cases r <;> rfl

/-- The sixteen registers with a plain store (R145). -/
def plainRegs : List Reg :=
  [.irqEn, .fireDelay, .guard, .zcTimeout, .temp, .setpoint, .spStep, .spMin, .spMax, .q0, .q1, .q2, .ts, .dbWindow,
    .btnPol, .stepHalf]

/-- The write to a register of `plainRegs` is its plain store, and neither `WR.CTRL` nor `WR.PID_CMD`. -/
theorem effect_write_plain {r : Reg} (h : r ∈ plainRegs) (d : Word) : ∃ hk : r.ctorIdx < (writeOps d).length,
    r.ctorIdx ≠ 0 ∧ r.ctorIdx ≠ 27 ∧ ∀ u, effect (writeOps d)[r.ctorIdx] u = hostStore r d u := by
  have hk : r.ctorIdx < 39 := by cases r <;> decide
  refine ⟨hk, ?_⟩
  fin_cases h <;> exact ⟨by decide, by decide, fun _ => rfl⟩

/-- The tick with a plain store is the silent tick with the store on top, and answers 0 (R145). -/
theorem step_storing {i : Inputs} (hr : i.rst = false) (s : State) (d : Word) (r : Reg)
    (h : r ∈ plainRegs := by decide) :
    ∃ t, step (s.given (i.storing (regAddr r.ctorIdx) d)) = .next t ∧
      t.cur = regWrite r d (ticked (s.given i.silent)).cur ∧ t.resp = { rdata := 0, err := false, cause := none } := by
  obtain ⟨hk, hctrl, hcmd, hop⟩ := effect_write_plain h d
  have hdecode := decodeBus_storing i d hk
  have hkill : kill (i.storing (regAddr r.ctorIdx) d) = false := by
    rw [kill, show 0x00#8 = regAddr 0 from rfl, writesTo_storing_other i d hk (by decide) hctrl, Bool.false_and]
  have hsample : stepCmd (i.storing (regAddr r.ctorIdx) d) = false := by
    rw [stepCmd, show 0x6C#8 = regAddr 27 from rfl, writesTo_storing_other i d hk (by decide) hcmd, Bool.false_and]
  refine ⟨_, step_eq_ticked _, ticked_cur_of_op hr (sameUnits_silent ⟨rfl, rfl, rfl, rfl⟩ (.inl hkill) hsample)
    (fun u hu => ?_) (mergeEvents_regWrite r d), ?_⟩
  · rw [hdecode, hop, hostStore_eq, hu]
    exact ⟨rfl, rfl⟩
  · rw [ticked_given_resp, hdecode, hop]
    exact hostWrite_resp (f := fun u => u.updRegs (regWrite r d)) (fun _ => rfl) _

/-- Settles O48: `step_storing` at each of the sixteen registers. -/
theorem plainStoreChangesOneRegister : Obligations.PlainStoreChangesOneRegister := by
  unfold Obligations.PlainStoreChangesOneRegister
  intro s i d hr
  exact ⟨_, step_eq_ticked _,
    step_storing hr s d .irqEn, step_storing hr s d .fireDelay, step_storing hr s d .guard,
    step_storing hr s d .zcTimeout, step_storing hr s d .temp, step_storing hr s d .setpoint,
    step_storing hr s d .spStep, step_storing hr s d .spMin, step_storing hr s d .spMax,
    step_storing hr s d .q0, step_storing hr s d .q1, step_storing hr s d .q2,
    step_storing hr s d .ts, step_storing hr s d .dbWindow, step_storing hr s d .btnPol,
    step_storing hr s d .stepHalf⟩

/-! ### `WR.CTRL` -/

theorem decodeBus_storingCtrl (i : Inputs) (d : Word) : decodeBus (i.storing 0x00#8 d).tw = .wrCtrl d :=
  decodeBus_write 0 d

theorem effect_wrCtrl {u : State} (hr : u.inp.rst = false) (d : Word) :
    effect (.wrCtrl d) u = { u.replied 0 with nxt := ctrlRegs d u.nxt } := by
  have h := exec_wrCtrl d u
  rw [exec_eq_effect, hr] at h
  exact Host.Outcome.next.inj h

/-- The write idles the unit once more after the units have run (R141). -/
theorem ticked_ctrl_zc {i : Inputs} (hr : i.rst = false) (s : State) (d : Word) :
    (ticked (s.given (i.storing 0x00#8 d))).cur.zc = (ctrlRegs d (unitsRun (s.given (i.storing 0x00#8 d))).nxt).zc := by
  have hinp : (unitsRun (s.given (i.storing 0x00#8 d))).inp.rst = false := unitsRun_rst (i := i.storing 0x00#8 d) hr s
  rw [ticked_given (i := i.storing 0x00#8 d) hr, decodeBus_storingCtrl, effect_wrCtrl hinp]
  rfl

theorem ticked_ctrl_resp (s : State) (i : Inputs) (d : Word) :
    (ticked (s.given (i.storing 0x00#8 d))).resp = { rdata := 0, err := false, cause := none } := by
  rw [ticked_given_resp, decodeBus_storingCtrl]
  exact hostWrite_resp (fun u => by cases d.getLsbD 0 <;> rfl) _

/-- Where the units do not see the write, the tick is the silent tick with the write on top. -/
theorem ticked_ctrl_cur {s : State} {i : Inputs} {d : Word} (hr : i.rst = false)
    (h : d.getLsbD 0 = true ∨ s.cur.zc.heatEn = false) :
    (ticked (s.given (i.storing 0x00#8 d))).cur = ctrlRegs d (ticked (s.given i.silent)).cur := by
  have hkill : kill (i.storing 0x00#8 d) = false ∨ s.cur.zc.heatEn = false := by
    refine h.imp_left fun hd => ?_
    show (writesTo (i.storing 0x00#8 d) 0x00#8 && !d.getLsbD 0) = false
    rw [hd, Bool.not_true, Bool.and_false]
  refine ticked_cur_of_op hr (sameUnits_silent ⟨rfl, rfl, rfl, rfl⟩ hkill rfl) (fun u hu => ?_) fun _ _ => rfl
  rw [decodeBus_storingCtrl, effect_wrCtrl hu]
  exact ⟨rfl, rfl⟩

/-! ### The kill -/

/-- A unit that is off keeps its measurements and its enable, and idles the rest (R230). -/
theorem unitsRun_zc_off {s : State} (h : unitOff (beginTick s) = true) :
    (unitsRun s).nxt.zc.period = s.cur.zc.period ∧ (unitsRun s).nxt.zc.lastCross = s.cur.zc.lastCross ∧
    (unitsRun s).nxt.zc.heatEn = s.cur.zc.heatEn ∧ (unitsRun s).nxt.zc.triac = false ∧
    (unitsRun s).nxt.zc.dlyCnt = 0 ∧ (unitsRun s).nxt.zc.haveEdge = false ∧ (unitsRun s).nxt.zc.zcSilence = 0 := by
  rw [unitsRun_zc_of_unitOff h, zcPart_pidSample]
  exact ⟨rfl, rfl, rfl, rfl, rfl, rfl, rfl⟩

/-- A kill on a unit that is disabled and idle has nothing to do. -/
theorem ctrlRegs_of_idle {d : Word} {r : Regs} (hd : d.getLsbD 0 = false) (hen : r.zc.heatEn = false)
    (htriac : r.zc.triac = false) (hdly : r.zc.dlyCnt = 0) (hedge : r.zc.haveEdge = false) (hsil : r.zc.zcSilence = 0) :
    ctrlRegs d r = r := by
  obtain ⟨sys, ⟨heatEn, triac, haveEdge, periodValid, zcPrev, lastCross, period, fireDelay, dlyCnt, guard, zcTimeout,
    zcSilence⟩, pid, db, mot, rx⟩ := r
  obtain rfl := hen
  obtain rfl := htriac
  obtain rfl := hdly
  obtain rfl := hedge
  obtain rfl := hsil
  exact ctrlRegs_of_kill hd _

/-- In a killed tick the units set no event of the zero-cross unit, and the host clears none (R99, R141). -/
theorem TickOf.event_bit_of_killed {s t : State} (ht : TickOf s t) (hr : s.nextInput.rst = false)
    (hkill : Killed s.nextInput) {k : Nat} (hk : k < 5) : t.cur.sys.event.getLsbD k = s.cur.sys.event.getLsbD k := by
  have hoff : ¬UnitOn s.cur s.nextInput := fun ⟨_, _, hon⟩ => hon hkill
  have hnone : ¬EventOccurs s.cur s.nextInput k := by
    rintro (⟨⟨-, hon, -⟩, -⟩ | ⟨b, hb, -⟩ | ⟨⟨-, hon, -⟩, -⟩ | ⟨⟨-, hon, -⟩, -⟩ | ⟨-, h⟩)
    · exact hoff hon
    · omega
    · exact hoff hon
    · exact hoff hon
    · omega
  have hkept : eventKept s.cur s.nextInput k = s.cur.sys.event.getLsbD k := by
    obtain ⟨⟨-, -, hctrl⟩, -⟩ := hkill
    have hw : ¬HostWrites s.nextInput 0x08#8 := fun ⟨_, _, haddr⟩ => absurd (hctrl.symm.trans haddr) (by decide)
    rw [eventKept, decide_eq_false hw, Bool.false_and, Bool.not_false, Bool.and_true]
  rw [Bool.eq_iff_iff, ht.event_bit hr (by omega), hkept, or_iff_right hnone]

/-- A kill on a unit that is disabled leaves every register as the silent tick does. -/
theorem ticked_kill_of_disabled {s : State} {i : Inputs} {d : Word} (hr : i.rst = false) (hd : d.getLsbD 0 = false)
    (hen : s.cur.zc.heatEn = false) :
    (ticked (s.given (i.storing 0x00#8 d))).cur = (ticked (s.given i.silent)).cur := by
  have hoff : unitOff (beginTick (s.given i.silent)) = true := by
    rw [unitOff_eq, decide_eq_true_eq]
    exact ⟨hr, fun ⟨hon, _⟩ => Bool.noConfusion (hen.symm.trans hon)⟩
  have hzc : (ticked (s.given i.silent)).cur.zc = (unitsRun (s.given i.silent)).nxt.zc := by
    rw [ticked_silent_cur hr, mergeEvents]
  obtain ⟨-, -, hkept, htriac, hdly, hedge, hsil⟩ := unitsRun_zc_off hoff
  rw [← hzc] at hkept htriac hdly hedge hsil
  rw [ticked_ctrl_cur hr (.inr hen)]
  exact ctrlRegs_of_idle hd (hkept.trans hen) htriac hdly hedge hsil

/-- Settles O49. With `D[0] = 1` the units do not see the write; with `D[0] = 0` they are off in this very tick. -/
theorem killClearsTheGateAtOnce : Obligations.KillClearsTheGateAtOnce := by
  unfold Obligations.KillClearsTheGateAtOnce
  intro s i d hr
  have hzc := ticked_ctrl_zc hr s d
  refine ⟨_, _, step_eq_ticked _, step_eq_ticked _, ?_, ticked_ctrl_resp s i d, fun hd => ?_, fun hd => ?_⟩
  · rw [BitVec.ofNat_eq_ofNat, hzc, ctrlRegs_heatEn]
  · rw [BitVec.ofNat_eq_ofNat, ticked_ctrl_cur hr (.inl hd), ctrlRegs_of_enable hd]
  · have hkilled : Killed (i.storing 0x00#8 d) := ⟨⟨rfl, rfl, rfl⟩, hd⟩
    have hoff : unitOff (beginTick (s.given (i.storing 0x00#8 d))) = true := by
      rw [unitOff_eq, decide_eq_true_eq]
      exact ⟨hr, fun ⟨_, _, hon⟩ => hon hkilled⟩
    have hbit {k : Nat} (hk : k < 5) :=
      (tickOf_ticked (s := s.given (i.storing 0x00#8 d)) hr).event_bit_of_killed hr hkilled hk
    obtain ⟨hperiod, hlast, -⟩ := unitsRun_zc_off hoff
    rw [ctrlRegs_of_kill hd] at hzc
    dsimp only [outputs]
    rw [BitVec.ofNat_eq_ofNat, hzc]
    dsimp only
    exact ⟨rfl, rfl, rfl, rfl, rfl, hperiod, hlast, hbit (by decide), ticked_kill_of_disabled hr hd, hbit (by decide)⟩

end Sys2Proof.Machine

/-! PROOF. What the operations of the zero-cross unit contribute to a tick (R230 to R238): a crossing in its two branches, the unit off, the timer
and the watchdog. -/

namespace Sys2Proof.Machine

theorem incSaturating_eq_ofNat (n : Word) : incSaturating n = BitVec.ofNat 32 (min (n.toNat + 1) (2 ^ 32 - 1)) := by
  rw [← incSaturating_toNat, BitVec.ofNat_toNat, BitVec.setWidth_eq]

theorem bne_eq_decide_ne (n m : Word) : (n != m) = decide (n ≠ m) := by
  rw [Bool.eq_iff_iff, bne_iff_ne, decide_eq_true_eq]

/-! ### A crossing -/

/-- The events every crossing sets: `ZC`, and `ZC_RETRIG` with the timer running (R232). -/
theorem crossingEvents_eq (s : State) : crossingEvents s =
    { s with
      evSet := s.evSet ||| if s.cur.zc.dlyCnt = 0#32 then 0x0001 else 0x0009
      nxt := { s.nxt with zc := { s.nxt.zc with zcSilence := 0 } } } := by
  rw [crossingEvents, State.when_eq_ite bne_iff_ne]
  by_cases hidle : s.cur.zc.dlyCnt = 0#32
  · rw [if_neg (not_not_intro hidle), if_pos hidle]
    rfl
  · have hboth : (0x0009 : Events) = evZc ||| evZcRetrig := rfl
    rw [if_pos hidle, if_neg hidle, hboth, ← BitVec.or_assoc]
    rfl

/-- The period measurement of a crossing (R233). -/
theorem measurePeriod_eq (s : State) : measurePeriod s =
    { s with nxt := { s.nxt with
      zc := { s.nxt.zc with
        period := if s.cur.zc.haveEdge then crossedPeriod s.cur else s.nxt.zc.period
        periodValid := if s.cur.zc.haveEdge then true else s.nxt.zc.periodValid
        lastCross := s.cur.sys.now
        haveEdge := true } } } := by
  unfold measurePeriod
  cases s.cur.zc.haveEdge <;> rfl

/-- Settles O24: an edge is a crossing or does nothing, and the compare of R234 chooses the branch. -/
theorem crossingOperation : Obligations.CrossingOperation := by
  unfold Obligations.CrossingOperation
  intro s
  have hexec : exec .zcRise s = .next (if Crosses s.cur s.inp then takeCrossing s else s) := by
    rw [exec, execZcRise, State.when_eq_ite (by rw [crossing_eq, decide_eq_true_eq])]
  refine ⟨fun hc => by rw [hexec, if_neg hc], fun hc => ⟨fun htimed => ?_, fun hclamp => ?_⟩⟩
  · have hbranch : takeCrossing s = timedBranch (measurePeriod (crossingEvents s)) := if_pos (BitVec.lt_def.2 htimed)
    rw [hexec, if_pos hc, hbranch, measurePeriod_eq, crossingEvents_eq, timedBranch, bne_eq_decide_ne]
    rfl
  · have hbranch : takeCrossing s = clampBranch (measurePeriod (crossingEvents s)) :=
      if_neg fun h => hclamp (BitVec.lt_def.1 h)
    rw [hexec, if_pos hc, hbranch, measurePeriod_eq, crossingEvents_eq, clampBranch]
    rfl

/-! ### The unit off, the timer and the watchdog -/

/-- An operation of the quiet tick, in the words of the statements. -/
theorem quiet_and_iff {s : State} {c : Bool} {P : Prop} (h : c = true ↔ P) :
    (quiet s && c) = true ↔ Quiet s.cur s.inp ∧ P := by
  rw [Bool.and_eq_true, quiet_eq, decide_eq_true_eq, h]

/-- Settles O25: the five updates, each in its condition. -/
theorem unitTimerOperations : Obligations.UnitTimerOperations := by
  unfold Obligations.UnitTimerOperations
  intro s
  have hoff : unitOff s = true ↔ s.inp.rst = false ∧ ¬UnitOn s.cur s.inp := by rw [unitOff_eq, decide_eq_true_eq]
  have hquiet : quiet s = true ↔ Quiet s.cur s.inp := by rw [quiet_eq, decide_eq_true_eq]
  have hcount : decide (2#32 ≤ s.cur.zc.dlyCnt) = true ↔ 2 ≤ s.cur.zc.dlyCnt.toNat := decide_eq_true_iff
  have hlast : (s.cur.zc.dlyCnt == 1#32) = true ↔ s.cur.zc.dlyCnt.toNat = 1 := by
    rw [beq_iff_eq, ← BitVec.toNat_inj]
    rfl
  have hfire : watchdogDue s.cur.zc = true ↔ SilenceTooLong s.cur := by rw [watchdogDue_eq, decide_eq_true_eq]
  refine ⟨?_, ?_, ?_, ?_, ?_⟩
  · rw [exec, execZcOff, State.when_eq_ite hoff]
    rfl
  · rw [exec, execDlyCount, State.when_eq_ite (quiet_and_iff hcount)]
    split_ifs with h
    · rw [pred_eq_ofNat (word_pos_iff.1 (Nat.lt_of_lt_of_le Nat.zero_lt_two h.2))]
      rfl
    · rfl
  · rw [exec, execDlyExpire, State.when_eq_ite (quiet_and_iff hlast)]
    rfl
  · rw [exec, execWdgCount, State.when_eq_ite hquiet, incSaturating_eq_ofNat]
    rfl
  · rw [exec, execWdgFire, State.when_eq_ite (quiet_and_iff hfire)]
    rfl

end Sys2Proof.Machine

/-! PROOF. The zero-cross unit in a whole tick (R230 to R238): its registers after a tick in which it is off, takes a crossing or is quiet, and
the events it sets. -/

namespace Sys2Proof.Machine

/-! ### What the unit alone writes -/

/-- The registers of the zero-cross unit without those the host stores to: what the unit and the kill write. -/
structure UnitRegs where
  triac : Bool
  dlyCnt : Word
  haveEdge : Bool
  zcSilence : Word
  zcPrev : Bool
  lastCross : Word
  period : Word
  periodValid : Bool

/-- What the unit holds in them. -/
def unitRegs (z : ZcRegs) : UnitRegs where
  triac := z.triac
  dlyCnt := z.dlyCnt
  haveEdge := z.haveEdge
  zcSilence := z.zcSilence
  zcPrev := z.zcPrev
  lastCross := z.lastCross
  period := z.period
  periodValid := z.periodValid

/-- The unit off: gate and timer cleared, the last edge forgotten, silence at 0 (R230). -/
def UnitRegs.idle (x : UnitRegs) : UnitRegs := { x with triac := false, dlyCnt := 0, haveEdge := false, zcSilence := 0 }

/-- A sample writes `FIRE_DELAY` alone (R265). -/
theorem unitRegs_pidSample (s : State) (z : ZcRegs) : unitRegs (zcPart s .pidSample z) = unitRegs z := by
  rw [zcPart_pidSample]
  rfl

/-- Of the host's writes the kill alone reaches these registers (R141, R145). -/
theorem unitRegs_hostZc (i : Inputs) (r : Regs) (z : ZcRegs) :
    unitRegs (hostZc i r z) = if kill i then (unitRegs z).idle else unitRegs z := by
  simp only [unitRegs, hostZc, kill, apply_ite ZcRegs.triac, apply_ite ZcRegs.dlyCnt, apply_ite ZcRegs.haveEdge,
    apply_ite ZcRegs.zcSilence, apply_ite ZcRegs.zcPrev, apply_ite ZcRegs.lastCross, apply_ite ZcRegs.period,
    apply_ite ZcRegs.periodValid, ite_self]
  by_cases hw : writesTo i 0x00#8 = true <;> by_cases hd : i.wdata.getLsbD 0 = true <;>
    simp [hw, hd, UnitRegs.idle, -BitVec.getLsbD_eq_getElem]

/-! ### The unit after a tick, in each of its conditions -/

section
variable {s t : State}

theorem TickOf.unitRegs_eq (ht : TickOf s t) : unitRegs t.cur.zc =
    if kill s.nextInput then (unitRegs (unitsRun s).nxt.zc).idle else unitRegs (unitsRun s).nxt.zc := by
  rw [ht.zc, unitRegs_hostZc]

/-- A unit that is on is not killed, so the host's write leaves what the unit has done. -/
theorem TickOf.unitRegs_of_unitOn (ht : TickOf s t) (hon : UnitOn s.cur s.nextInput) :
    unitRegs t.cur.zc = unitRegs (unitsRun s).nxt.zc := by
  obtain ⟨-, -, halive⟩ := hon
  have hkill : kill s.nextInput = false := by rw [kill_eq, decide_eq_false halive]
  rw [ht.unitRegs_eq, hkill]
  rfl

/-- The unit off keeps its measurements and idles the rest; a kill on top changes nothing (R230). -/
theorem TickOf.unitRegs_of_off (ht : TickOf s t) (hr : s.nextInput.rst = false) (hoff : ¬UnitOn s.cur s.nextInput) :
    unitRegs t.cur.zc = (unitRegs { s.cur.zc with zcPrev := s.nextInput.zcIn }).idle := by
  have h : unitOff (beginTick s) = true := by
    rw [unitOff_eq, decide_eq_true_eq]
    exact ⟨hr, hoff⟩
  rw [ht.unitRegs_eq, unitsRun_zc_of_unitOff h, unitRegs_pidSample]
  split <;> rfl

/-- `PERIOD` after a crossing: without an earlier edge it stays, and `p` is that same value (R233). -/
theorem measured_eq (r : Regs) : (if r.zc.haveEdge then crossedPeriod r else r.zc.period) = crossedPeriod r := by
  unfold crossedPeriod
  split <;> rfl

/-- A crossing measures the period and takes one of the two branches (R232 to R236). -/
theorem TickOf.unitRegs_of_crosses (ht : TickOf s t) (hc : Crosses s.cur s.nextInput) : unitRegs t.cur.zc =
    { triac := if s.cur.zc.fireDelay < crossedPeriod s.cur then s.cur.zc.fireDelay != 0 else true
      dlyCnt := if s.cur.zc.fireDelay < crossedPeriod s.cur then s.cur.zc.fireDelay else 0
      haveEdge := true
      zcSilence := 0
      zcPrev := s.nextInput.zcIn
      lastCross := s.cur.sys.now
      period := crossedPeriod s.cur
      periodValid := s.cur.zc.haveEdge || s.cur.zc.periodValid } := by
  obtain ⟨-, hon, -⟩ := id hc
  have h : crossing (beginTick s) = true := by
    rw [crossing_eq, decide_eq_true_eq]
    exact hc
  rw [ht.unitRegs_of_unitOn hon, unitsRun_zc_of_crossing h, unitRegs_pidSample, zcPart, if_pos h, unitRegs,
    UnitRegs.mk.injEq]
  exact ⟨rfl, rfl, rfl, rfl, rfl, rfl, measured_eq s.cur, rfl⟩

/-- Without a crossing the timer and the silence count, and a watchdog that fires overrides the timer (R237, R238). -/
theorem TickOf.unitRegs_of_quiet (ht : TickOf s t) (hq : Quiet s.cur s.nextInput) : unitRegs t.cur.zc =
    { triac := s.cur.zc.triac && s.cur.zc.dlyCnt != 1 && !decide (SilenceTooLong s.cur)
      dlyCnt := if SilenceTooLong s.cur then 0 else decToZero s.cur.zc.dlyCnt
      haveEdge := s.cur.zc.haveEdge && !decide (SilenceTooLong s.cur)
      zcSilence := incSaturating s.cur.zc.zcSilence
      zcPrev := s.nextInput.zcIn
      lastCross := s.cur.zc.lastCross
      period := s.cur.zc.period
      periodValid := s.cur.zc.periodValid } := by
  obtain ⟨-, hon, -⟩ := id hq
  have h : quiet (beginTick s) = true := by
    rw [quiet_eq, decide_eq_true_eq]
    exact hq
  rw [ht.unitRegs_of_unitOn hon, unitsRun_zc_of_quiet h, unitRegs_pidSample]
  by_cases hfire : SilenceTooLong s.cur
  · simp only [zcPart, h, beginTick_cur, watchdogDue_eq, decide_eq_true hfire, Bool.and_self, if_true, if_pos hfire,
      Bool.not_true, Bool.and_false]
    rfl
  · simp only [zcPart, h, beginTick_cur, watchdogDue_eq, decide_eq_false hfire, Bool.and_false, Bool.false_eq_true,
      if_false, if_neg hfire, Bool.not_false, Bool.and_true]
    rfl

end

/-! ### The events of the unit -/

section
variable {s t : State} {r : Regs} {i : Inputs} {k : Nat}

/-- A bit of `EVENT` after a tick, where its event occurs under the condition `c` (R99). -/
theorem TickOf.event_bit_eq (ht : TickOf s t) (hr : s.nextInput.rst = false) (hk : k < 13) {c : Prop} [Decidable c]
    (h : EventOccurs s.cur s.nextInput k ↔ c) :
    t.cur.sys.event.getLsbD k = (decide c || eventKept s.cur s.nextInput k) := by
  rw [Bool.eq_iff_iff, ht.event_bit hr hk, h, Bool.or_eq_true, decide_eq_true_eq]

/-- The unit's events are bits 0 to 4, and nothing but the unit sets them (R34). -/
theorem eventOccurs_unit_iff (hk : k < 5) : EventOccurs r i k ↔
    Crosses r i ∧ (k = 0 ∨ k = 2 ∧ ¬r.zc.fireDelay.toNat < (crossedPeriod r).toNat ∨ k = 3 ∧ r.zc.dlyCnt ≠ 0) ∨
      Quiet r i ∧ (k = 1 ∧ r.zc.dlyCnt = 1 ∨ k = 4 ∧ SilenceTooLong r) := by
  have hbtn : ¬∃ b, k = 8 + btnIndex b ∧ Accepts r i b := fun ⟨b, hb, _⟩ => by omega
  have hsample : ¬(Samples r i ∧ (k = 5 ∨ k = 6 ∧ rawOf r.pid < 0 ∨ k = 7 ∧ 6553600 < rawOf r.pid)) :=
    fun ⟨_, h⟩ => by omega
  rw [EventOccurs, iff_false_intro hbtn, iff_false_intro hsample, false_or, or_false, ← and_or_left]

/-- A tick with the unit off sets none of them (R230). -/
theorem not_eventOccurs_of_off (hoff : ¬UnitOn r i) (hk : k < 5) : ¬EventOccurs r i k := by
  rw [eventOccurs_unit_iff hk]
  rintro (⟨⟨-, hon, -⟩, -⟩ | ⟨⟨-, hon, -⟩, -⟩)
  · exact hoff hon
  · exact hoff hon

theorem eventOccurs_of_crosses (hc : Crosses r i) (hk : k < 5) : EventOccurs r i k ↔
    k = 0 ∨ k = 2 ∧ ¬r.zc.fireDelay.toNat < (crossedPeriod r).toNat ∨ k = 3 ∧ r.zc.dlyCnt ≠ 0 := by
  obtain ⟨-, -, hrise⟩ := id hc
  have hq : ¬Quiet r i := fun ⟨_, _, hlow⟩ => hlow hrise
  rw [eventOccurs_unit_iff hk, iff_false_intro hq, false_and, or_false, and_iff_right hc]

theorem eventOccurs_of_quiet (hq : Quiet r i) (hk : k < 5) : EventOccurs r i k ↔
    k = 1 ∧ r.zc.dlyCnt = 1 ∨ k = 4 ∧ SilenceTooLong r := by
  obtain ⟨-, -, hlow⟩ := id hq
  have hc : ¬Crosses r i := fun ⟨_, _, hrise⟩ => hlow hrise
  rw [eventOccurs_unit_iff hk, iff_false_intro hc, false_and, false_or, and_iff_right hq]

end

/-! ### The three ticks -/

/-- Settles O34: the idle unit, and none of its events occurs. -/
theorem unitOffTick : Obligations.UnitOffTick := by
  unfold Obligations.UnitOffTick
  intro s hr hoff
  have ht := tickOf_ticked hr
  obtain ⟨htriac, hdly, hedge, hsilence, hprev, hlast, hperiod, hvalid⟩ :=
    UnitRegs.mk.inj (ht.unitRegs_of_off hr hoff)
  refine ⟨ticked s, step_eq_ticked s, htriac, hdly, hedge, hsilence, hprev, hlast, hperiod, hvalid,
    fun hsample hwrite => ?_, fun k hk => ?_⟩
  · have hcross : ¬Crosses s.cur s.nextInput := fun ⟨_, hon, _⟩ => hoff hon
    rw [ht.fireDelay_eq hr, if_neg hwrite, if_neg hsample, if_neg fun ⟨h, _⟩ => hcross h]
  · exact ht.event_bit_eq hr (by omega) (iff_false_intro (not_eventOccurs_of_off hoff hk))

/-- Settles O35: the registers of a crossing, its clamp on `FIRE_DELAY`, and its events bit by bit. -/
theorem crossingTick : Obligations.CrossingTick := by
  unfold Obligations.CrossingTick
  intro s hc
  obtain ⟨hr, -, hrise, -⟩ := id hc
  have ht := tickOf_ticked hr
  obtain ⟨htriac, hdly, hedge, hsilence, hprev, hlast, hperiod, hvalid⟩ := UnitRegs.mk.inj (ht.unitRegs_of_crosses hc)
  have hbit {k : Nat} (hk : k < 5) {c : Prop} [Decidable c]
      (h : (k = 0 ∨ k = 2 ∧ ¬s.cur.zc.fireDelay.toNat < (crossedPeriod s.cur).toNat ∨ k = 3 ∧ s.cur.zc.dlyCnt ≠ 0) ↔ c) :=
    ht.event_bit_eq hr (by omega) ((eventOccurs_of_crosses hc hk).trans h)
  refine ⟨ticked s, step_eq_ticked s, hlast, hedge, hsilence, hprev.trans hrise, hperiod, hvalid, fun htimed => ?_,
    fun hclamp => ?_, ?_, ?_, ?_, ?_, ?_⟩
  · have hlt : s.cur.zc.fireDelay < crossedPeriod s.cur := BitVec.lt_def.2 htimed
    rw [htriac, hdly, if_pos hlt, if_pos hlt, bne_iff_ne]
    exact ⟨rfl, Iff.rfl⟩
  · have hge : ¬s.cur.zc.fireDelay < crossedPeriod s.cur := fun hlt => absurd (BitVec.lt_def.1 hlt) (Nat.not_lt.2 hclamp)
    rw [htriac, hdly, if_neg hge, if_neg hge]
    refine ⟨rfl, rfl, fun hsample hwrite => ?_⟩
    rw [ht.fireDelay_eq hr, if_neg hwrite, if_neg hsample, if_pos ⟨hc, hge⟩]
  · exact hbit (k := 0) (c := True) (by decide) (by simp)
  · exact hbit (k := 1) (c := False) (by decide) (by simp)
  · exact hbit (k := 2) (by decide) (by simp)
  · exact hbit (k := 3) (by decide) (by simp)
  · exact hbit (k := 4) (c := False) (by decide) (by simp)

/-- Settles O36: the registers of a quiet tick with and without the watchdog, and its events bit by bit. -/
theorem quietTick : Obligations.QuietTick := by
  unfold Obligations.QuietTick
  intro s hq
  obtain ⟨hr, -⟩ := id hq
  have ht := tickOf_ticked hr
  obtain ⟨htriac, hdly, hedge, hsilence, hprev, hlast, hperiod, hvalid⟩ := UnitRegs.mk.inj (ht.unitRegs_of_quiet hq)
  have hbit {k : Nat} (hk : k < 5) {c : Prop} [Decidable c]
      (h : (k = 1 ∧ s.cur.zc.dlyCnt = 1 ∨ k = 4 ∧ SilenceTooLong s.cur) ↔ c) :=
    ht.event_bit_eq hr (by omega) ((eventOccurs_of_quiet hq hk).trans h)
  have hlost := hbit (k := 4) (c := SilenceTooLong s.cur) (by decide) (by simp)
  refine ⟨ticked s, step_eq_ticked s, ?_, fun hfire => ?_, fun hsilent => ?_, hprev, hlast, hperiod, hvalid,
    hbit (k := 1) (by decide) (by simp), ?_⟩
  · rw [hsilence, incSaturating_toNat]
  · rw [htriac, hdly, hedge, hlost, decide_eq_true hfire, if_pos hfire]
    simp
  · rw [htriac, hdly, hedge, hlost, decide_eq_false hsilent, if_neg hsilent, decToZero_toNat,
      bne_eq_decide_ne]
    simp
  · simp only [List.forall_mem_cons, List.not_mem_nil, false_implies, implies_true, and_true]
    exact ⟨hbit (k := 0) (c := False) (by decide) (by simp), hbit (k := 2) (c := False) (by decide) (by simp),
      hbit (k := 3) (c := False) (by decide) (by simp)⟩

end Sys2Proof.Machine

/-! PROOF. The timed pulse of a crossing (R235, R237, R239): the gate with its timer at `n`, from the crossing tick down to 0. -/

namespace Sys2Proof.Machine

/-- The timer has `n` ticks to count, the gate is asserted until it has counted them, and only with the unit enabled and in sync. -/
structure GateTimed (n : Nat) (r : Regs) : Prop where
  timer : r.zc.dlyCnt.toNat = n
  gate : r.zc.triac = decide (n ≠ 0)
  guarded : GateGuarded r

/-- The timed branch of a crossing loads the timer and asserts the gate with it (R235). -/
theorem gateTimed_of_crosses {s : State} (hc : Crosses s.cur s.nextInput)
    (htimed : s.cur.zc.fireDelay.toNat < (crossedPeriod s.cur).toNat) :
    GateTimed s.cur.zc.fireDelay.toNat (ticked s).cur := by
  obtain ⟨hr, -⟩ := id hc
  have ht := tickOf_ticked hr
  have hlt : s.cur.zc.fireDelay < crossedPeriod s.cur := BitVec.lt_def.2 htimed
  obtain ⟨htriac, hdly, -⟩ := UnitRegs.mk.inj (ht.unitRegs_of_crosses hc)
  rw [if_pos hlt] at htriac hdly
  refine ⟨by rw [hdly], ?_, ht.gateGuarded hr⟩
  rw [htriac, Bool.eq_iff_iff, bne_iff_ne, decide_eq_true_eq, ← Nat.pos_iff_ne_zero, word_pos_iff]
  rfl

/-- A tick that neither resets, nor takes a crossing, nor kills, nor fires the watchdog counts the timer down by one (R237). -/
theorem GateTimed.ticked {n : Nat} {s : State} (h : GateTimed (n + 1) s.cur) (hr : s.nextInput.rst = false)
    (hcross : ¬Crosses s.cur s.nextInput) (hkill : ¬Killed s.nextInput) (hsilent : ¬SilenceTooLong s.cur) :
    GateTimed n (ticked s).cur := by
  obtain ⟨htimer, hgate, hguarded⟩ := h
  have hasserted : s.cur.zc.triac = true := hgate
  obtain ⟨henabled, hsync⟩ := hguarded hasserted
  have hon : UnitOn s.cur s.nextInput := ⟨henabled, hsync, hkill⟩
  have hq : Quiet s.cur s.nextInput := ⟨hr, hon, fun hrise => hcross ⟨hr, hon, hrise⟩⟩
  have ht := tickOf_ticked hr
  obtain ⟨htriac, hdly, -⟩ := UnitRegs.mk.inj (ht.unitRegs_of_quiet hq)
  rw [if_neg hsilent] at hdly
  refine ⟨?_, ?_, ht.gateGuarded hr⟩
  · rw [hdly, decToZero_toNat, htimer, Nat.add_sub_cancel]
  · have hlast : s.cur.zc.dlyCnt = 1 ↔ n = 0 := by
      rw [← BitVec.toNat_inj, htimer]
      simp
    rw [htriac, hasserted, decide_eq_false hsilent, Bool.eq_iff_iff]
    simp only [Bool.true_and, Bool.not_false, Bool.and_true, bne_iff_ne, decide_eq_true_eq, ne_eq, hlast]

/-- The ticks after a timed crossing count the timer from `FIRE_DELAY` down, as long as nothing disturbs it (R239). -/
theorem gateTimed_ticks {s : State} {D : Nat} (hc : Crosses s.cur s.nextInput) (hD : s.cur.zc.fireDelay.toNat = D)
    (htimed : D < (crossedPeriod s.cur).toNat)
    (hcalm : ∀ (k : Nat) (u : State), 1 ≤ k → k ≤ D → After k s u →
      u.nextInput.rst = false ∧ ¬Crosses u.cur u.nextInput ∧ ¬Killed u.nextInput ∧ ¬SilenceTooLong u.cur)
    {k : Nat} (hk : k ≤ D) : GateTimed (D - k) (ticks (k + 1) s).cur := by
  induction k with
  | zero =>
    subst hD
    exact gateTimed_of_crosses hc htimed
  | succ k ih =>
    obtain ⟨hr, hcross, hkill, hsilent⟩ := hcalm (k + 1) (ticks (k + 1) s) (by omega) hk (after_iff.2 rfl)
    have hprev : GateTimed (D - (k + 1) + 1) (ticks (k + 1) s).cur := by
      rw [show D - (k + 1) + 1 = D - k by omega]
      exact ih (by omega)
    rw [ticks_succ (k + 1)]
    exact hprev.ticked hr hcross hkill hsilent

/-- Settles O56: `k` ticks after the crossing the timer is at `D + 1 - k`, and the gate is asserted until it is at 0. -/
theorem gateStaysAssertedForFireDelayTicks : Obligations.GateStaysAssertedForFireDelayTicks := by
  unfold Obligations.GateStaysAssertedForFireDelayTicks
  intro s D hc hD htimed hcalm
  refine ⟨fun k hk hkD => ?_, ticks (D + 1) s, after_iff.2 rfl, ?_⟩
  · obtain ⟨j, rfl⟩ : ∃ j, k = j + 1 := ⟨k - 1, by omega⟩
    have hgate := (gateTimed_ticks hc hD htimed hcalm (k := j) (by omega)).gate
    exact ⟨ticks (j + 1) s, after_iff.2 rfl, hgate.trans (decide_eq_true (by omega))⟩
  · have hgate := (gateTimed_ticks hc hD htimed hcalm (Nat.le_refl D)).gate
    exact hgate.trans (decide_eq_false (by omega))

end Sys2Proof.Machine

/-! PROOF. The PID unit in a whole tick (R260 to R264, R267, R270): its divider, and the five registers a sample writes. -/

namespace Sys2Proof.Machine

/-! ### What a sample alone writes -/

/-- The registers of the PID unit that a sample writes and nothing else (R261 to R264, R267). -/
structure SampleRegs where
  e1 : Word
  e2 : Word
  pidRaw : Word
  pidOut : Word
  sampleCount : Word

/-- What the unit holds in them. -/
def sampleRegs (p : PidRegs) : SampleRegs where
  e1 := p.e1
  e2 := p.e2
  pidRaw := p.pidRaw
  pidOut := p.pidOut
  sampleCount := p.sampleCount

/-- What a sample computes for them from `S_t`. -/
def sampleResult (p : PidRegs) : SampleRegs where
  e1 := wordOfInt (sampleError p)
  e2 := p.e1
  pidRaw := wordOfInt (satS32 (sampleRaw p))
  pidOut := wordOfInt (sampleOut p)
  sampleCount := p.sampleCount + 1#32

theorem sampleRegs_pidSample (s : State) (p : PidRegs) :
    sampleRegs (pidPart s .pidSample p) = if sampleDue s then sampleResult s.cur.pid else sampleRegs p := by
  rw [pidPart]
  split <;> rfl

/-- No other operation of the units reaches these registers. -/
theorem sampleRegs_pidPart_of_ne {i : Instr} (h : i ≠ .pidSample) (s : State) (p : PidRegs) :
    sampleRegs (pidPart s i p) = sampleRegs p := by
  cases i
  case pidSample => exact absurd rfl h
  case btn3Edge | btn4Edge | tsCount | tsTick =>
    rw [pidPart]
    split <;> rfl
  all_goals rfl

theorem sampleRegs_unitsRun (s : State) : sampleRegs (unitsRun s).nxt.pid =
    if sampleDue (beginTick s) then sampleResult s.cur.pid else sampleRegs s.cur.pid := by
  simp only [unitsRun_pid, sampleRegs_pidSample, sampleRegs_pidPart_of_ne, ne_eq, reduceCtorEq, not_false_eq_true,
    beginTick_cur]

/-- Of the host's writes the commanded sample alone reaches them (R145, R260). -/
theorem sampleRegs_hostPid (i : Inputs) (r : Regs) (p : PidRegs) :
    sampleRegs (hostPid i r p) = if stepCmd i then sampleResult r.pid else sampleRegs p := by
  simp only [sampleRegs, hostPid, apply_ite PidRegs.e1, apply_ite PidRegs.e2, apply_ite PidRegs.pidRaw,
    apply_ite PidRegs.pidOut, apply_ite PidRegs.sampleCount, ite_self]
  split <;> rfl

/-! ### The unit after a tick -/

section
variable {s t : State}

/-- One sample where one is due, by the divider, by command or by both; else none (R260). -/
theorem TickOf.sampleRegs_eq (ht : TickOf s t) (hr : s.nextInput.rst = false) : sampleRegs t.cur.pid =
    if Samples s.cur s.nextInput then sampleResult s.cur.pid else sampleRegs s.cur.pid := by
  have hdue : sampleDue (beginTick s) = true ↔ Samples s.cur s.nextInput := by
    rw [sampleDue_eq, decide_eq_true_eq]
    rfl
  rw [ht.pid, sampleRegs_hostPid, sampleRegs_unitsRun]
  cases hcmd : stepCmd s.nextInput
  · simp only [hdue, Bool.false_eq_true, if_false]
  · rw [if_pos rfl, if_pos (hdue.1 (sampleDue_of_stepCmd (s := beginTick s) hr hcmd))]

theorem hostPid_tsCnt (i : Inputs) (r : Regs) (p : PidRegs) : (hostPid i r p).tsCnt = p.tsCnt := by
  simp only [hostPid, apply_ite PidRegs.tsCnt, ite_self]

/-- `TS_CNT` after a tick; a commanded sample leaves it counting (R260). -/
theorem TickOf.tsCnt_eq (ht : TickOf s t) (hr : s.nextInput.rst = false) : t.cur.pid.tsCnt =
    if s.cur.pid.ts = 0 ∨ SampleTick s.cur then 0 else s.cur.pid.tsCnt + 1#32 := by
  rw [ht.pid, hostPid_tsCnt, unitsRun_pid]
  simp only [pidPart, apply_ite PidRegs.tsCnt, ite_self, beginTick_cur, beginTick_inp, hr, autoSample_eq, Bool.not_false,
    Bool.true_and, decide_eq_true_eq, Bool.false_eq_true, if_false,
    BitVec.ofNat_eq_ofNat]
  by_cases hauto : SampleTick s.cur
  · rw [if_pos hauto, if_pos (.inr hauto)]
  · rw [if_neg hauto]

/-- The divider counts only below `TS`, so it never wraps (R260). -/
theorem tsCnt_succ_toNat {r : Regs} (h : ¬(r.pid.ts = 0 ∨ SampleTick r)) :
    (r.pid.tsCnt + 1#32).toNat = r.pid.tsCnt.toNat + 1 := by
  obtain ⟨hts, hauto⟩ := not_or.1 h
  have hbelow : r.pid.tsCnt.toNat + 1 < r.pid.ts.toNat := Nat.lt_of_not_le fun hle => hauto ⟨hts, hle⟩
  have hword := r.pid.ts.isLt
  rw [BitVec.toNat_add, Nat.mod_eq_of_lt]
  · rfl
  · exact hbelow.trans hword

/-- The sample's events are bits 5 to 7, and nothing but a sample sets them (R264, R268). -/
theorem eventOccurs_sample_iff {r : Regs} {i : Inputs} {k : Nat} (hlo : 5 ≤ k) (hhi : k < 8) : EventOccurs r i k ↔
    Samples r i ∧ (k = 5 ∨ k = 6 ∧ rawOf r.pid < 0 ∨ k = 7 ∧ 6553600 < rawOf r.pid) := by
  have hbtn : ¬∃ b, k = 8 + btnIndex b ∧ Accepts r i b := fun ⟨b, hb, _⟩ => by omega
  have hcross : ¬(k = 0 ∨ k = 2 ∧ ¬r.zc.fireDelay.toNat < (crossedPeriod r).toNat ∨ k = 3 ∧ r.zc.dlyCnt ≠ 0) := by omega
  have hfire : ¬(k = 1 ∧ r.zc.dlyCnt = 1) := by omega
  have hlost : ¬(k = 4 ∧ SilenceTooLong r) := by omega
  rw [EventOccurs, iff_false_intro hbtn, iff_false_intro hcross, iff_false_intro hfire, iff_false_intro hlost]
  simp only [and_false, false_or]

/-! ### The power and the delay of a sample -/

theorem powerOf_range (p : PidRegs) : 0 ≤ powerOf p ∧ powerOf p ≤ 6553600 := by
  unfold powerOf
  omega

/-- Inside the range the clamp is void (R264, R270). -/
theorem powerOf_of_inRange {p : PidRegs} (hlo : 0 ≤ rawOf p) (hhi : rawOf p ≤ 6553600) : powerOf p = rawOf p := by
  rw [powerOf, min_eq_right hhi, max_eq_right hlo]

/-- The floor of R263 loses less than one unit of the raw value. -/
theorem rawOf_remainder (p : PidRegs) :
    0 ≤ accumulated p - rawOf p * 65536 ∧ accumulated p - rawOf p * 65536 < 65536 := by
  rw [rawOf, Int.fdiv_eq_ediv_of_nonneg _ (by decide)]
  omega

/-- `PID_OUT` after a sample is the power of R264. -/
theorem TickOf.pidOut_of_samples (ht : TickOf s t) (hs : Samples s.cur s.nextInput) :
    (t.cur.pid.pidOut.toNat : Int) = powerOf s.cur.pid := by
  obtain ⟨hr, -⟩ := id hs
  have hregs := ht.sampleRegs_eq hr
  rw [if_pos hs] at hregs
  obtain ⟨-, -, -, hout, -⟩ := SampleRegs.mk.inj hregs
  rw [hout, sampleOut_toNat]

end

/-! ### The two statements -/

/-- Settles O39: the divider of `TickOf.tsCnt_eq`, the registers of `TickOf.sampleRegs_eq` as integers, and the sample's events. -/
theorem sampleTickOfThePidUnit : Obligations.SampleTickOfThePidUnit := by
  unfold Obligations.SampleTickOfThePidUnit
  intro s hr
  have ht := tickOf_ticked hr
  have hregs := ht.sampleRegs_eq hr
  refine ⟨ticked s, step_eq_ticked s, ?_, fun hs => ?_, fun hs => ?_⟩
  · rw [ht.tsCnt_eq hr]
    split
    · rfl
    · next hcount => exact tsCnt_succ_toNat hcount
  · have hbit {k : Nat} (hlo : 5 ≤ k) (hhi : k < 8) {c : Prop} [Decidable c]
        (h : (k = 5 ∨ k = 6 ∧ rawOf s.cur.pid < 0 ∨ k = 7 ∧ 6553600 < rawOf s.cur.pid) ↔ c) :=
      ht.event_bit_eq hr (by omega) (((eventOccurs_sample_iff hlo hhi).trans (and_iff_right hs)).trans h)
    rw [if_pos hs] at hregs
    obtain ⟨he1, he2, hraw, hout, hcount⟩ := SampleRegs.mk.inj hregs
    rw [he1, he2, hraw, hout, hcount]
    refine ⟨sampleError_toInt _, rfl, sampleRaw_toInt _, sampleOut_toNat _, BitVec.toNat_add .., ?_, ?_, ?_⟩
    · simpa using hbit (k := 5) (c := True) (by decide) (by decide) (by simp)
    · exact hbit (k := 6) (by decide) (by decide) (by simp)
    · exact hbit (k := 7) (by decide) (by decide) (by simp)
  · rw [if_neg hs] at hregs
    exact SampleRegs.mk.inj hregs

/-- Settles O40: `PID_OUT` is the clamped power, `FIRE_DELAY` the clamped delay, and the floor is off by less than one unit. -/
theorem wholeSampleProperty : Obligations.WholeSampleProperty := by
  unfold Obligations.WholeSampleProperty
  intro s hs
  obtain ⟨hr, -⟩ := id hs
  have ht := tickOf_ticked hr
  have hout := ht.pidOut_of_samples hs
  obtain ⟨hpos, hmax⟩ := powerOf_range s.cur.pid
  obtain ⟨-, hdelay⟩ := delayOf_range s.cur
  refine ⟨ticked s, step_eq_ticked s, by omega,
    ⟨(sampleDelay s.cur).toNat, ?_, sampleDelay_toNat s.cur, fun hwrite => ?_⟩, fun hlo hhi => ?_, ?_⟩
  · rw [← sampleDelay_toNat] at hdelay
    exact Int.ofNat_le.1 hdelay
  · rw [ht.fireDelay_eq hr, if_neg hwrite, if_pos hs]
  · rw [hout, powerOf_of_inRange hlo hhi]
    exact ⟨rfl, rawOf_remainder _⟩
  · rw [hout, min_eq_right hmax, max_eq_right hpos]

end Sys2Proof.Machine

/-! PROOF. What an operation of the buttons contributes to a tick: an accepted edge loads the hold-off, sets its event and runs its transition
(R291, R293) on the motion state (R311 to R313) or on the setpoint (R297). -/

namespace Sys2Proof.Machine

/-! ### An accepted edge -/

/-- A button operation at the level `p` acts where that level makes an edge which is accepted (R291, R293). -/
theorem buttonEdge_eq (b : Btn) (p : Bool) (f : State → State) (s : State) : buttonEdge b p f s =
    if s.inp.rst = false ∧ EdgeTo s.cur (btnIndex b) p ∧ holdOf b s.cur.db = 0#32 then f (acceptEvent b s) else s := by
  rw [buttonEdge, State.when_eq_ite (by rw [accepted_eq, decide_eq_true_eq])]

/-- An accepted edge that runs a transition of the motion state machine (R293, R311 to R313). -/
theorem updMot_acceptEvent (b : Btn) (f : MotRegs → MotRegs) (s : State) : (acceptEvent b s).updMot f =
    { s with
      evSet := s.evSet ||| evBtnAcc b
      nxt := { s.nxt with
        db := setHold b (BitVec.ofNat 32 (s.cur.db.window.toNat - 1)) s.nxt.db
        mot := f s.nxt.mot } } := by
  rw [acceptEvent_eq, decToZero_eq_ofNat]
  rfl

/-- An accepted edge that moves the setpoint: to the value `moveSetpoint_toInt` gives (R293, R297). -/
theorem moveSetpoint_acceptEvent (b : Btn) (delta : Int) (s : State) : moveSetpoint delta (acceptEvent b s) =
    { s with
      evSet := s.evSet ||| evBtnAcc b
      nxt := { s.nxt with
        db := setHold b (BitVec.ofNat 32 (s.cur.db.window.toNat - 1)) s.nxt.db
        pid := { s.nxt.pid with setpoint := (moveSetpoint delta s).nxt.pid.setpoint } } } := by
  rw [acceptEvent_eq, decToZero_eq_ofNat]
  rfl

/-! ### The two statements -/

/-- Settles O28: the three button operations with their transitions, each in its condition. -/
theorem motionButtonOperations : Obligations.MotionButtonOperations := by
  unfold Obligations.MotionButtonOperations
  intro s p
  refine ⟨?right, ?left, ?pause⟩
  case right =>
    rw [exec, execBtn0Edge, buttonEdge_eq, updMot_acceptEvent]
    rfl
  case left =>
    rw [exec, execBtn1Edge, buttonEdge_eq, updMot_acceptEvent]
    rfl
  case pause =>
    rw [exec, execBtn2Edge, buttonEdge_eq, updMot_acceptEvent]
    rfl

/-- Settles O29: the setpoint each of the two operations stores, as an integer, and the operation in its condition. -/
theorem setpointButtonOperations : Obligations.SetpointButtonOperations := by
  unfold Obligations.SetpointButtonOperations
  intro s p
  have hminus := moveSetpoint_toInt (-s.cur.pid.spStep.toInt) s
  rw [← sub_eq_add_neg] at hminus
  refine ⟨_, moveSetpoint_toInt s.cur.pid.spStep.toInt s, ?up, _, hminus, ?down⟩
  case up =>
    rw [exec, execBtn3Edge, buttonEdge_eq, moveSetpoint_acceptEvent]
    rfl
  case down =>
    rw [exec, execBtn4Edge, buttonEdge_eq, moveSetpoint_acceptEvent]
    rfl

end Sys2Proof.Machine

/-! PROOF. The latches in a whole tick (R290 to R295): the hold-off and the event of each, for every button at once. -/

namespace Sys2Proof.Machine

section
variable {s t : State}

theorem TickOf.db_prev_eq (ht : TickOf s t) : t.cur.db.prev = s.nextInput.btn := by
  obtain ⟨-, -, hprev⟩ := unitsRun_db_keeps s
  rw [ht.db, hostDb_prev, hprev]

/-- A hold-off after a tick, as a number: one less than the window where an edge is accepted, else one less than it was (R293, R295). -/
theorem TickOf.holdOf_toNat (ht : TickOf s t) (hr : s.nextInput.rst = false) (b : Btn) : (holdOf b t.cur.db).toNat =
    (if Accepts s.cur s.nextInput b then s.cur.db.window.toNat else (holdOf b s.cur.db).toNat) - 1 := by
  have hacc : accepted (beginTick s) b (btnLevel s.nextInput b) = decide (Accepts s.cur s.nextInput b) :=
    accepted_level_eq (beginTick s) b
  rw [ht.db, holdOf_hostDb, unitsRun_holdOf hr, hacc, decToZero_toNat, apply_ite BitVec.toNat]
  simp only [decide_eq_true_eq]

end

theorem btnIndex_inj {b c : Btn} : btnIndex b = btnIndex c ↔ b = c := by
  constructor
  · cases b <;> cases c <;> simp [btnIndex]
  · exact congrArg btnIndex

/-- `BTN_ACCi` is set by an accepted edge on button `i`, and by nothing else (R34, R293). -/
theorem eventOccurs_btn_iff {r : Regs} {i : Inputs} {b : Btn} :
    EventOccurs r i (8 + btnIndex b) ↔ Accepts r i b := by
  have hbit {k : Nat} (hk : k < 8) : 8 + btnIndex b ≠ k := by omega
  simp [EventOccurs, btnIndex_inj, hbit]

/-- `BTN_ACCi` after a tick (R99, R293). -/
theorem TickOf.btnAcc_eq {s t : State} (ht : TickOf s t) (hr : s.nextInput.rst = false) (b : Btn) :
    t.cur.sys.event.getLsbD (8 + btnIndex b) =
      (decide (Accepts s.cur s.nextInput b) || eventKept s.cur s.nextInput (8 + btnIndex b)) :=
  ht.event_bit_eq hr (by cases b <;> decide) eventOccurs_btn_iff

/-- Settles O41: the hold-off and the event of each button, with and without an accepted edge. -/
theorem latchTick : Obligations.LatchTick := by
  unfold Obligations.LatchTick
  intro s hr
  have ht := tickOf_ticked hr
  refine ⟨ticked s, step_eq_ticked s, ht.db_prev_eq, fun b => ⟨fun hacc => ?_, fun hacc => ?_⟩⟩
  · rw [ht.holdOf_toNat hr, ht.btnAcc_eq hr, if_pos hacc, decide_eq_true hacc, Bool.true_or]
    refine ⟨?_, rfl⟩
    split <;> omega
  · rw [ht.holdOf_toNat hr, ht.btnAcc_eq hr, if_neg hacc, decide_eq_false hacc, Bool.false_or]
    refine ⟨?_, rfl⟩
    split <;> omega

/-! ### The debounce window -/

/-- `k` ticks after an accepted edge the hold-off is `max(W - k, 0)`, as long as there was no reset and no other accepted edge (R294). -/
theorem holdOf_ticks {s : State} {b : Btn} (hacc : Accepts s.cur s.nextInput b) {k : Nat} (hk : 1 ≤ k)
    (hcalm : ∀ (j : Nat) (u : State), 1 ≤ j → j < k → After j s u →
      u.nextInput.rst = false ∧ ¬Accepts u.cur u.nextInput b) :
    (holdOf b (ticks k s).cur.db).toNat = s.cur.db.window.toNat - k := by
  induction k, hk using Nat.le_induction with
  | base =>
    obtain ⟨hr, -⟩ := id hacc
    rw [ticks_succ, ticks, (tickOf_ticked hr).holdOf_toNat hr, if_pos hacc]
  | succ k hk ih =>
    obtain ⟨hr, hno⟩ := hcalm k (ticks k s) hk (Nat.lt_succ_self k) (after_iff.2 rfl)
    have hprev := ih fun j u hj hjk => hcalm j u hj (Nat.lt_succ_of_lt hjk)
    rw [ticks_succ, (tickOf_ticked hr).holdOf_toNat hr, if_neg hno, hprev, Nat.sub_sub]

/-- Settles O57: a raw edge without reset is accepted exactly when the hold-off of `holdOf_ticks` is at 0. -/
theorem holdOffIsTheDebounceWindow : Obligations.HoldOffIsTheDebounceWindow := by
  unfold Obligations.HoldOffIsTheDebounceWindow
  intro s b k hacc hk hcalm
  have hhold := holdOf_ticks hacc hk hcalm
  refine ⟨ticks k s, after_iff.2 rfl, hhold, fun hr hedge => ?_⟩
  calc Accepts (ticks k s).cur (ticks k s).nextInput b
      ↔ holdOf b (ticks k s).cur.db = 0#32 := by rw [Accepts, and_iff_right hr, and_iff_right hedge]
    _ ↔ s.cur.db.window.toNat - k = 0 := by rw [← hhold, ← BitVec.toNat_inj, BitVec.toNat_zero]
    _ ↔ s.cur.db.window.toNat ≤ k := Nat.sub_eq_zero_iff_le

end Sys2Proof.Machine

/-! PROOF. The setpoint in a whole tick (R297): moved by the accepted setpoint buttons, up then down, unless the host writes it. -/

namespace Sys2Proof.Machine

/-- A setpoint `x` inside the bounds, `SP_MIN` winning (R297). -/
def boundedSetpoint (p : PidRegs) (x : Int) : Int := max p.spMin.toInt (min p.spMax.toInt x)

/-- The working setpoint after an operation of SP_UP: `moveSetpoint_toInt` on the PID unit as built so far. -/
theorem setpoint_btn3Edge (s : State) (l : Bool) (p : PidRegs) : (pidPart s (.btn3Edge l) p).setpoint.toInt =
    if accepted s .spUp l then boundedSetpoint s.cur.pid (p.setpoint.toInt + s.cur.pid.spStep.toInt)
    else p.setpoint.toInt := by
  rw [pidPart]
  split
  · exact moveSetpoint_toInt _ (s.updPid fun _ => p)
  · rfl

/-- The working setpoint after an operation of SP_DOWN. -/
theorem setpoint_btn4Edge (s : State) (l : Bool) (p : PidRegs) : (pidPart s (.btn4Edge l) p).setpoint.toInt =
    if accepted s .spDown l then boundedSetpoint s.cur.pid (p.setpoint.toInt - s.cur.pid.spStep.toInt)
    else p.setpoint.toInt := by
  rw [pidPart, sub_eq_add_neg]
  split
  · exact moveSetpoint_toInt _ (s.updPid fun _ => p)
  · rfl

/-- The divider and the sample leave the setpoint (R260 to R264). -/
theorem setpoint_sampling (s : State) (p : PidRegs) :
    (pidPart s .pidSample (pidPart s .tsTick (pidPart s .tsCount p))).setpoint = p.setpoint := by
  simp only [pidPart, apply_ite PidRegs.setpoint, ite_self]

theorem hostPid_setpoint (i : Inputs) (r : Regs) (p : PidRegs) :
    (hostPid i r p).setpoint = if writesTo i 0x34#8 then i.wdata else p.setpoint := by
  simp only [hostPid, apply_ite PidRegs.setpoint, ite_self]

/-- Settles O42: the host's value, or the two button operations in their order on `S.SETPOINT`. -/
theorem setpointTick : Obligations.SetpointTick := by
  unfold Obligations.SetpointTick
  intro s hr
  have ht := tickOf_ticked hr
  have hup : accepted (beginTick s) .spUp (s.nextInput.btn.getLsbD 3) = decide (Accepts s.cur s.nextInput .spUp) :=
    accepted_level_eq (beginTick s) .spUp
  have hdown : accepted (beginTick s) .spDown (s.nextInput.btn.getLsbD 4) = decide (Accepts s.cur s.nextInput .spDown) :=
    accepted_level_eq (beginTick s) .spDown
  refine ⟨ticked s, step_eq_ticked s, ?value, fun hacc => ?accUp, fun hacc => ?accDown⟩
  case value =>
    rw [ht.pid, hostPid_setpoint, writesTo_eq, unitsRun_pid, apply_ite BitVec.toInt]
    dsimp only
    rw [setpoint_sampling, setpoint_btn4Edge, setpoint_btn3Edge, hup, hdown]
    simp only [decide_eq_true_eq]
    rfl
  case accUp => exact (ht.btnAcc_eq hr .spUp).trans (by rw [decide_eq_true hacc, Bool.true_or])
  case accDown => exact (ht.btnAcc_eq hr .spDown).trans (by rw [decide_eq_true hacc, Bool.true_or])

end Sys2Proof.Machine

/-! PROOF. The motion state machine in a whole tick (R311 to R313, R315): the transitions as functions of a row, and the row after the accepted
edges in their order. -/

namespace Sys2Proof.Machine

/-! ### The transitions on a row -/

/-- RIGHT on a row of R315 (R311). -/
def rightRow (m : MotionRow) : MotionRow :=
  if m.paused = false ∧ m.dir ≠ .right then
    { m with motDir := true, motEn := true, dir := .right, flags := flagsRight } else m

/-- LEFT on a row (R312). -/
def leftRow (m : MotionRow) : MotionRow :=
  if m.paused = false ∧ m.dir ≠ .left then
    { m with motDir := false, motEn := true, dir := .left, flags := flagsLeft } else m

/-- PAUSE on a row (R313). -/
def pauseRow (m : MotionRow) : MotionRow :=
  if m.paused = false then { m with paused := true, dir := .none, flags := flagsPaused } else { m with paused := false }

theorem motionRow_rightTransition (m : MotRegs) : motionRow (rightTransition m) = rightRow (motionRow m) := by
  rw [rightTransition, apply_ite motionRow]
  rfl

theorem motionRow_leftTransition (m : MotRegs) : motionRow (leftTransition m) = leftRow (motionRow m) := by
  rw [leftTransition, apply_ite motionRow]
  rfl

theorem motionRow_pauseTransition (m : MotRegs) : motionRow (pauseTransition m) = pauseRow (motionRow m) := by
  rw [pauseTransition, apply_ite motionRow]
  rfl

/-! ### The row after a tick -/

/-- The row after this tick's accepted edges: RIGHT, then LEFT, then PAUSE, each on what the one before left (R296). -/
def rowAfterEdges (r : Regs) (i : Inputs) : MotionRow :=
  let edge (b : Btn) (f : MotionRow → MotionRow) (m : MotionRow) : MotionRow := if Accepts r i b then f m else m
  edge .pause pauseRow <| edge .left leftRow <| edge .right rightRow (motionRow r.mot)

theorem motionRow_afterButtons (s : State) : motionRow (afterButtons s) = rowAfterEdges s.cur s.nextInput := by
  simp only [afterButtons, rowAfterEdges, apply_ite motionRow, motionRow_rightTransition, motionRow_leftTransition,
    motionRow_pauseTransition]

theorem motionRow_ticked {s : State} (hr : s.nextInput.rst = false) :
    motionRow (ticked s).cur.mot = rowAfterEdges s.cur s.nextInput :=
  (tickOf_ticked hr).motionRow_eq.trans (motionRow_afterButtons s)

/-- Settles O43: the row by `motionRow_ticked`, the events by `TickOf.btnAcc_eq`. -/
theorem motionTick : Obligations.MotionTick := by
  unfold Obligations.MotionTick
  intro s hr
  have hacc (b : Btn) (h : Accepts s.cur s.nextInput b) :
      (ticked s).cur.sys.event.getLsbD (8 + btnIndex b) = true := by
    rw [(tickOf_ticked hr).btnAcc_eq hr, decide_eq_true h, Bool.true_or]
  exact ⟨ticked s, step_eq_ticked s, motionRow_ticked hr, hacc .right, hacc .left, hacc .pause⟩

/-! ### The transition table -/

section
variable {r : Regs} {i : Inputs}

theorem rowAfterEdges_of_none (hright : ¬Accepts r i .right) (hleft : ¬Accepts r i .left)
    (hpause : ¬Accepts r i .pause) : rowAfterEdges r i = motionRow r.mot := by
  simp only [rowAfterEdges, if_neg hright, if_neg hleft, if_neg hpause]

theorem rowAfterEdges_of_right (hright : Accepts r i .right) (hleft : ¬Accepts r i .left)
    (hpause : ¬Accepts r i .pause) : rowAfterEdges r i = rightRow (motionRow r.mot) := by
  simp only [rowAfterEdges, if_pos hright, if_neg hleft, if_neg hpause]

theorem rowAfterEdges_of_left (hright : ¬Accepts r i .right) (hleft : Accepts r i .left)
    (hpause : ¬Accepts r i .pause) : rowAfterEdges r i = leftRow (motionRow r.mot) := by
  simp only [rowAfterEdges, if_neg hright, if_pos hleft, if_neg hpause]

theorem rowAfterEdges_of_pause (hright : ¬Accepts r i .right) (hleft : ¬Accepts r i .left)
    (hpause : Accepts r i .pause) : rowAfterEdges r i = pauseRow (motionRow r.mot) := by
  simp only [rowAfterEdges, if_neg hright, if_neg hleft, if_pos hpause]

end

/-- Settles O44: a tick with one accepted edge runs that edge's transition alone, and each entry is its value on the row. -/
theorem motionTransitionTable : Obligations.MotionTransitionTable := by
  unfold Obligations.MotionTransitionTable
  intro s hr
  refine ⟨ticked s, step_eq_ticked s, ?_⟩
  dsimp only
  rw [motionRow_ticked hr]
  refine ⟨fun ⟨hright, hleft, hpause⟩ => rowAfterEdges_of_none hright hleft hpause, fun d e f hrow => ?idle,
    fun hrow => ?drivingRight, fun hrow => ?drivingLeft, fun d e hrow => ?paused⟩
  all_goals
    refine ⟨fun ⟨hright, hleft, hpause⟩ => ?_, fun ⟨hright, hleft, hpause⟩ => ?_, fun ⟨hright, hleft, hpause⟩ => ?_⟩
    · rw [rowAfterEdges_of_right hright hleft hpause, hrow]
      rfl
    · rw [rowAfterEdges_of_left hright hleft hpause, hrow]
      rfl
    · rw [rowAfterEdges_of_pause hright hleft hpause, hrow]
      rfl

end Sys2Proof.Machine

/-! PROOF. The pulse generator in a whole tick (R316) and over the ticks of one interval (R317): `STEP` with its counter depends on the motion
side of `S_t` alone, so that neither the buttons nor the host can change an interval that has begun. -/

namespace Sys2Proof.Machine

/-! ### One tick -/

/-- `STEP`, and `STEP_CNT` as a number. -/
def pulse (m : MotRegs) : Bool × Nat := (m.step, m.stepCnt.toNat)

/-- What R316 makes of them. -/
def pulseAfter (m : MotRegs) : Bool × Nat :=
  if 0 < m.stepCnt.toNat then (m.step, m.stepCnt.toNat - 1)
  else if m.step = true then (false, max m.stepHalf.toNat 1 - 1)
  else if (m.dir ≠ .none ∧ m.paused = false) ∧ m.stepHalf ≠ 0 then (true, m.stepHalf.toNat - 1)
  else (false, 0)

theorem pulse_rightTransition (m : MotRegs) : pulse (rightTransition m) = pulse m := by
  unfold rightTransition
  split <;> rfl

theorem pulse_leftTransition (m : MotRegs) : pulse (leftTransition m) = pulse m := by
  unfold leftTransition
  split <;> rfl

theorem pulse_pauseTransition (m : MotRegs) : pulse (pauseTransition m) = pulse m := by
  unfold pauseTransition
  split <;> rfl

theorem pulse_hostMot (i : Inputs) (m : MotRegs) : pulse (hostMot i m) = pulse m := by
  unfold hostMot
  split <;> rfl

theorem toNat_pred {n : Word} (h : n ≠ 0#32) : (n - 1#32).toNat = n.toNat - 1 := by
  rw [← decToZero_toNat, decToZero, if_neg h]

/-- The three operations of the generator, run on registers that still hold `STEP` and `STEP_CNT` of `S_t`: at most one of them acts. -/
theorem pulse_generator {s : State} (hr : s.inp.rst = false) {m : MotRegs} (hm : pulse m = pulse s.cur.mot) :
    pulse (motPart s .stepRise (motPart s .stepFall (motPart s .stepCount m))) = pulseAfter s.cur.mot := by
  unfold pulseAfter
  by_cases hcnt : s.cur.mot.stepCnt = 0#32
  case neg =>
    obtain ⟨hstep, -⟩ := Prod.mk.inj hm
    rw [if_pos (word_pos_iff.2 hcnt), ← toNat_pred hcnt, ← hstep]
    simp [motPart, hr, hcnt, pulse]
  case pos =>
    rw [if_neg (mt word_pos_iff.1 (not_not_intro hcnt))]
    cases hstep : s.cur.mot.step
    case true =>
      have hlow : max s.cur.mot.stepHalf.toNat 1 - 1 = (decToZero s.cur.mot.stepHalf).toNat := by
        rw [decToZero_toNat]
        omega
      rw [if_pos rfl, hlow]
      simp [motPart, hr, hcnt, hstep, pulse]
    case false =>
      rw [if_neg Bool.false_ne_true]
      by_cases hdue : (s.cur.mot.dir ≠ .none ∧ s.cur.mot.paused = false) ∧ s.cur.mot.stepHalf ≠ 0
      · rw [if_pos hdue, ← toNat_pred hdue.2]
        simp [motPart, hr, hcnt, hstep, (pulseDue_iff _).2 hdue, pulse]
      · have hidle : pulseDue s.cur.mot = false := Bool.eq_false_iff.2 (mt (pulseDue_iff _).1 hdue)
        rw [if_neg hdue]
        simpa [motPart, hr, hcnt, hstep, hidle, pulse] using hm

/-- The accepted edges and the host leave the generator to R316, which reads `S_t` alone. -/
theorem TickOf.pulse_eq {s t : State} (ht : TickOf s t) (hr : s.nextInput.rst = false) :
    pulse t.cur.mot = pulseAfter s.cur.mot := by
  rw [ht.mot, pulse_hostMot, unitsRun_mot]
  refine pulse_generator (s := beginTick s) hr ?_
  simp only [motPart, apply_ite pulse, pulse_rightTransition, pulse_leftTransition, pulse_pauseTransition, ite_self,
    beginTick_cur]

theorem pulse_ticked {s : State} (hr : s.nextInput.rst = false) : pulse (ticked s).cur.mot = pulseAfter s.cur.mot :=
  (tickOf_ticked hr).pulse_eq hr

/-- Settles O45: `pulse_ticked`. -/
theorem pulseTick : Obligations.PulseTick := by
  unfold Obligations.PulseTick
  intro s hr
  exact ⟨ticked s, step_eq_ticked s, pulse_ticked hr⟩

/-! ### The ticks of an interval -/

section
variable {m : MotRegs}

theorem pulseAfter_of_count {l : Bool} {n : Nat} (h : pulse m = (l, n + 1)) : pulseAfter m = (l, n) := by
  obtain ⟨rfl, hcnt⟩ := Prod.mk.inj h
  rw [pulseAfter, hcnt, if_pos n.succ_pos, Nat.add_sub_cancel]

theorem pulseAfter_of_fall (h : pulse m = (true, 0)) : pulseAfter m = (false, max m.stepHalf.toNat 1 - 1) := by
  obtain ⟨hstep, hcnt⟩ := Prod.mk.inj h
  rw [pulseAfter, hcnt, if_neg (Nat.lt_irrefl 0), if_pos hstep]

theorem pulseAfter_of_rise (h : pulse m = (false, 0)) (hdrive : m.dir ≠ .none ∧ m.paused = false)
    (hhalf : m.stepHalf ≠ 0) : pulseAfter m = (true, m.stepHalf.toNat - 1) := by
  obtain ⟨hstep, hcnt⟩ := Prod.mk.inj h
  rw [pulseAfter, hcnt, hstep, if_neg (Nat.lt_irrefl 0), if_neg Bool.false_ne_true, if_pos ⟨hdrive, hhalf⟩]

/-- A low `STEP` goes high by the third branch of R316 alone, which asks for `DRIVE`. -/
theorem drives_of_pulseAfter (hlow : m.step = false) (hhigh : (pulseAfter m).1 = true) :
    m.dir ≠ .none ∧ m.paused = false := by
  unfold pulseAfter at hhigh
  split_ifs at hhigh with hcnt hstep hdue
  · exact absurd (hlow.symm.trans hhigh) Bool.false_ne_true
  · exact hdue.1

end

/-- An interval begun with `n` ticks to last runs to its end: `k` ticks later `STEP` has its level and the counter stands at `n - k`,
whatever the buttons and the host do, as long as there is no reset. -/
theorem pulse_ticks {s : State} {l : Bool} {n : Nat} (hbegin : pulseAfter s.cur.mot = (l, n - 1)) {k : Nat} (hk : 1 ≤ k)
    (hkn : k ≤ n) (hunreset : ∀ j < k, (ticks j s).nextInput.rst = false) :
    pulse (ticks k s).cur.mot = (l, n - k) := by
  induction k, hk using Nat.le_induction with
  | base => exact (pulse_ticked (hunreset 0 Nat.one_pos)).trans hbegin
  | succ k hk ih =>
    have hprev := ih (by omega) fun j hj => hunreset j (by omega)
    rw [show n - k = n - (k + 1) + 1 by omega] at hprev
    rw [ticks_succ, pulse_ticked (hunreset k (by omega)), pulseAfter_of_count hprev]

/-- Settles O58: both intervals by `pulse_ticks`, the fall after the high one by the fall's branch of R316, and a rise by
`drives_of_pulseAfter`. -/
theorem pulsesHaveTheirFullLength : Obligations.PulsesHaveTheirFullLength := by
  unfold Obligations.PulsesHaveTheirFullLength
  intro s
  dsimp only
  refine ⟨fun hcnt hstep hdir hpaused hhalf hunreset => ?high, fun hcnt hstep hunreset k hk hkH => ?low,
    fun t ht hlow hhigh => ?rise⟩
  case high =>
    have hpos : 1 ≤ s.cur.mot.stepHalf.toNat := word_pos_iff.2 hhalf
    have hboundary : pulse s.cur.mot = (false, 0) := by rw [pulse, hcnt, hstep]; rfl
    have hinterval {k : Nat} (hk : 1 ≤ k) (hkH : k ≤ s.cur.mot.stepHalf.toNat) :=
      pulse_ticks (pulseAfter_of_rise hboundary ⟨hdir, hpaused⟩ hhalf) hk hkH
        fun j hj => hunreset j _ (by omega) (after_iff.2 rfl)
    refine ⟨fun k hk hkH => ⟨ticks k s, after_iff.2 rfl, congrArg Prod.fst (hinterval hk hkH)⟩, _, after_iff.2 rfl, ?_⟩
    have hend := hinterval hpos (Nat.le_refl _)
    rw [Nat.sub_self] at hend
    rw [ticks_succ]
    exact congrArg Prod.fst
      ((pulse_ticked (hunreset _ _ (Nat.le_refl _) (after_iff.2 rfl))).trans (pulseAfter_of_fall hend))
  case low =>
    have hend : pulse s.cur.mot = (true, 0) := by rw [pulse, hcnt, hstep]; rfl
    have hinterval := pulse_ticks (pulseAfter_of_fall hend) hk hkH fun j hj => hunreset j _ (by omega) (after_iff.2 rfl)
    exact ⟨ticks k s, after_iff.2 rfl, congrArg Prod.fst hinterval⟩
  case rise =>
    obtain rfl := step_next_iff.1 ht
    cases hr : s.nextInput.rst
    case false => exact drives_of_pulseAfter hlow ((congrArg Prod.fst (pulse_ticked hr)).symm.trans hhigh)
    case true =>
      rw [ticked_cur_of_rst hr] at hhigh
      exact absurd hhigh Bool.false_ne_true

end Sys2Proof.Machine

/-! PROOF. The bus error (R341): which transactions are illegal, that such a transaction does nothing but answer its cause, and that every other one
answers without an error. -/

namespace Sys2Proof.Machine

/-- The transaction of this tick is illegal with cause `c` (R341). -/
def Illegal (i : Inputs) : BusCause → Prop
  | .misaligned => Misaligned i
  | .unmapped => Unmapped i
  | .writeRo => WritesReadOnly i

theorem exists_illegal_iff {i : Inputs} : (∃ c, Illegal i c) ↔ Misaligned i ∨ Unmapped i ∨ WritesReadOnly i := by
  constructor
  · rintro ⟨c, h⟩
    cases c with
    | misaligned => exact .inl h
    | unmapped => exact .inr (.inl h)
    | writeRo => exact .inr (.inr h)
  · rintro (h | h | h)
    · exact ⟨.misaligned, h⟩
    · exact ⟨.unmapped, h⟩
    · exact ⟨.writeRo, h⟩

/-! ### An illegal transaction -/

/-- Every write to a read-only register is the bus error, in any state (R162). -/
theorem effect_write_readOnly {a : BitVec 8} (h : a ∈ readOnlyAddresses) (d : Word) (u : State) :
    effect (decodeFields true true a d) u = u.rejected .writeRo := by
  fin_cases h <;> rfl

/-- The operation of an illegal transaction answers its cause and does nothing else (R341). -/
theorem effect_of_illegal {i : Inputs} {c : BusCause} (h : Illegal i c) (u : State) :
    effect (decodeBus i.tw) u = u.rejected c := by
  rw [decodeBus_tw]
  cases c with
  | misaligned =>
    obtain ⟨hvalid, hoff⟩ := h
    rw [hvalid, decodeFields_misaligned (mt aligned_iff.1 hoff)]
    rfl
  | unmapped =>
    obtain ⟨hvalid, haligned, hhigh⟩ := h
    rw [hvalid, decodeFields_unmapped (aligned_iff.2 haligned) (BitVec.le_def.2 hhigh)]
    rfl
  | writeRo =>
    obtain ⟨hvalid, hwrite, hro⟩ := h
    rw [hvalid, hwrite, effect_write_readOnly hro]

/-- An illegal transaction writes no writable register. -/
theorem writesTo_of_illegal {i : Inputs} {c : BusCause} (h : Illegal i c) {a : BitVec 8}
    (haligned : a.toNat % 4 = 0 := by decide) (hmapped : a.toNat < 0x9C := by decide)
    (hwritable : a ∉ readOnlyAddresses := by decide) : writesTo i a = false := by
  rw [writesTo_eq, decide_eq_false_iff_not]
  rintro ⟨-, -, rfl⟩
  cases c with
  | misaligned =>
    obtain ⟨-, hoff⟩ := h
    exact hoff haligned
  | unmapped =>
    obtain ⟨-, -, hhigh⟩ := h
    exact Nat.not_le.2 hmapped hhigh
  | writeRo =>
    obtain ⟨-, -, hro⟩ := h
    exact hwritable hro

/-- A tick with an illegal transaction leaves every register as the silent tick does: the units see neither a kill nor a commanded sample,
and the operation writes nothing; a reset tick ends in one state whatever its transaction. -/
theorem ticked_illegal_cur {i : Inputs} {c : BusCause} (h : Illegal i c) (s : State) :
    (ticked (s.given i)).cur = (ticked (s.given i.silent)).cur := by
  cases hr : i.rst
  case true =>
    rw [ticked_cur_of_rst (s := s.given i) hr, ticked_cur_of_rst (s := s.given i.silent) hr]
    rfl
  case false =>
    have hkill : kill i = false := by rw [kill, writesTo_of_illegal h, Bool.false_and]
    have hsample : stepCmd i = false := by rw [stepCmd, writesTo_of_illegal h, Bool.false_and]
    refine ticked_cur_of_op (f := id) hr (sameUnits_silent ⟨rfl, rfl, rfl, rfl⟩ (.inl hkill) hsample) (fun u _ => ?_)
      fun _ _ => rfl
    rw [effect_of_illegal h]
    exact ⟨rfl, rfl⟩

/-! ### Every other transaction -/

/-- The writable registers are those with a plain store and the three whose write does more (R141, R143, R160). -/
theorem writable_cases : ∀ k < 39, regAddr k ∉ readOnlyAddresses →
    k = 0 ∨ k = 2 ∨ k = 27 ∨ ∃ r ∈ plainRegs, k = r.ctorIdx := by
  decide

/-- A write to a writable register answers 0 without an error (R140). -/
theorem effect_write_resp_of_writable (d : Word) {k : Nat} (hk : k < (writeOps d).length)
    (hwritable : regAddr k ∉ readOnlyAddresses) (u : State) :
    (effect (writeOps d)[k] u).resp = BusResponse.idle := by
  rcases writable_cases k hk hwritable with rfl | rfl | rfl | ⟨r, hr, rfl⟩
  · exact hostWrite_resp (fun u => by cases d.getLsbD 0 <;> rfl) u
  · exact hostWrite_resp (f := fun u => u.updSys _) (fun _ => rfl) u
  · exact hostWrite_resp (fun u => by cases d.getLsbD 0 <;> rfl) u
  · obtain ⟨_, -, -, hstore⟩ := effect_write_plain hr d
    rw [hstore]
    exact hostWrite_resp (f := fun u => u.updRegs (regWrite r d)) (fun _ => rfl) u

/-- A transaction that is not illegal, or none, is answered without an error (R140, R142). -/
theorem effect_resp_of_legal {i : Inputs} (h : ∀ c, ¬Illegal i c) (u : State) :
    ∃ w, (effect (decodeBus i.tw) u).resp = { rdata := w, err := false, cause := none } := by
  rw [decodeBus_tw]
  cases hvalid : i.valid
  case false => exact ⟨0, rfl⟩
  case true =>
    rcases addr_cases i.addr with hoff | ⟨haligned, hhigh⟩ | ⟨k, hk, haddr⟩
    · exact absurd ⟨hvalid, mt aligned_iff.2 hoff⟩ (h .misaligned)
    · exact absurd ⟨hvalid, aligned_iff.1 haligned, BitVec.le_def.1 hhigh⟩ (h .unmapped)
    · rw [haddr]
      cases hwrite : i.write
      case false =>
        obtain ⟨r, hread⟩ := effect_read (k := k) hk
        exact ⟨regRead r u.cur, by rw [decodeFields_read hk, hread, hostRead_eq, State.replied]⟩
      case true =>
        have hwritable : regAddr k ∉ readOnlyAddresses := fun hro => h .writeRo ⟨hvalid, hwrite, haddr ▸ hro⟩
        exact ⟨0, by rw [decodeFields_write i.wdata hk]; exact effect_write_resp_of_writable i.wdata hk hwritable u⟩

/-! ### The tick -/

theorem ticked_resp_of_illegal {i : Inputs} {c : BusCause} (h : Illegal i c) (s : State) :
    (ticked (s.given i)).resp = { rdata := 0, err := true, cause := some c } := by
  rw [ticked_given_resp, effect_of_illegal h]
  rfl

theorem ticked_resp_of_legal {i : Inputs} (h : ∀ c, ¬Illegal i c) (s : State) :
    ∃ w, (ticked (s.given i)).resp = { rdata := w, err := false, cause := none } := by
  rw [ticked_given_resp]
  exact effect_resp_of_legal h _

/-- The bus reports an error in just the ticks with an illegal transaction (R341). -/
theorem ticked_err_iff {s : State} {i : Inputs} : (ticked (s.given i)).resp.err = true ↔ ∃ c, Illegal i c := by
  by_cases h : ∃ c, Illegal i c
  · obtain ⟨c, hc⟩ := h
    exact iff_of_true (by rw [ticked_resp_of_illegal hc]) ⟨c, hc⟩
  · obtain ⟨w, hw⟩ := ticked_resp_of_legal (not_exists.1 h) s
    exact iff_of_false (by rw [hw]; exact Bool.false_ne_true) h

/-- Settles O51: the error by `ticked_err_iff`, the registers by `ticked_illegal_cur`, each cause by `ticked_resp_of_illegal`. -/
theorem busErrorChangesNoState : Obligations.BusErrorChangesNoState := by
  unfold Obligations.BusErrorChangesNoState
  intro s i
  have hcause {c : BusCause} (h : Illegal i c) : (ticked (s.given i)).resp.cause = some c := by
    rw [ticked_resp_of_illegal h]
  refine ⟨_, _, step_eq_ticked _, step_eq_ticked _, ticked_err_iff.trans exists_illegal_iff, fun herr => ?error,
    fun hok => ?noCause, hcause (c := .misaligned), hcause (c := .unmapped), hcause (c := .writeRo)⟩
  case error =>
    obtain ⟨c, hc⟩ := ticked_err_iff.1 herr
    exact ⟨by rw [ticked_resp_of_illegal hc], ticked_illegal_cur hc s⟩
  case noCause =>
    have hlegal : ∀ c, ¬Illegal i c := fun c hc => Bool.false_ne_true (hok.symm.trans (ticked_err_iff.2 ⟨c, hc⟩))
    obtain ⟨w, hw⟩ := ticked_resp_of_legal hlegal s
    rw [hw]

end Sys2Proof.Machine

/-! PROOF. The statements about reset (70_reset_and_hazards.md): what a reset tick leaves to be seen, and the state the machine starts in. -/

namespace Sys2Proof.Machine

/-! ### What a reset image shows -/

/-- No event is pending after reset, and none is enabled (R345, R371). -/
theorem irq_resetImage (z : Bool) (b : BitVec 5) (f : BitVec 3) : irq (resetImage z b f) = false := by
  simp [irq, resetImage]

/-- No output is asserted after reset: no gate, no motion, no flags, and no event that could raise `irq` (R65, R371). -/
theorem outputs_resetImage (z : Bool) (b : BitVec 5) (f : BitVec 3) : outputs (resetImage z b f) =
    { triacGate := false, motDir := false, motEn := false, motStep := false, flagRight := false, flagLeft := false,
      flagPaused := false, irq := false } := by
  rw [outputs, irq_resetImage]
  simp [resetImage]

theorem append_four_zeros {w : Nat} (x : BitVec w) : x ++ 0#1 ++ 0#1 ++ 0#1 ++ 0#1 = x ++ 0#4 := by
  apply BitVec.eq_of_toNat_eq
  simp only [BitVec.toNat_append, BitVec.toNat_ofNat, Nat.zero_mod, Nat.or_zero, ← Nat.shiftLeft_add]

/-- Of `STATUS` a reset image shows the captured buttons and `zc_in` alone: `irq`, `DRIVE` and the four bits of the zero-cross unit
below the pins are 0 (R172, R372). -/
theorem statusImage_resetImage (z : Bool) (b : BitVec 5) (f : BitVec 3) :
    statusImage (resetImage z b f) = 0#22 ++ b ++ BitVec.ofBool z ++ 0#4 := by
  have hdrive : drive (resetImage z b f).mot = false := rfl
  have htimer : timerActive (resetImage z b f).zc = false := by simp [timerActive, resetImage]
  rw [statusImage, irq_resetImage, hdrive, htimer]
  exact append_four_zeros (0#22 ++ b ++ BitVec.ofBool z)

/-! ### The two statements -/

/-- Settles O11: `ticked_cur_of_rst` gives the reset image, whose outputs and `STATUS` are those above; the response is that of every
tick (R140), a reset tick included. -/
theorem resetTickGivesTheResetState : Obligations.ResetTickGivesTheResetState := by
  unfold Obligations.ResetTickGivesTheResetState
  intro s hr
  have hcur : (ticked s).cur = resetImage s.nextInput.zcIn s.nextInput.btn s.nextInput.flagIn :=
    (ticked_cur_of_rst hr).trans (resetWith_eq_resetImage ..)
  refine ⟨ticked s, step_eq_ticked s, hcur, ?outputs, ?status, fun u hu => ?response⟩
  case outputs => rw [hcur, outputs_resetImage]
  case status => rw [hcur]; exact statusImage_resetImage ..
  case response => exact responseComesFromTheStateBeforeTheTick s (ticked s) u s rfl (step_eq_ticked s) hu

/-- Settles O10: `State.reset` is the reset image of the idle pins, with the model's own fields at rest. -/
theorem initialStateIsTheResetState : Obligations.InitialStateIsTheResetState := by
  unfold Obligations.InitialStateIsTheResetState
  have hcur : State.reset.cur = resetImage false 0b11111 0b000 :=
    resetWith_eq_resetImage Config.idleZc Config.idleBtn Config.idleFlagIn
  have hrest : BetweenTicks State.reset := ⟨rfl, rfl⟩
  exact ⟨hcur, hrest, rfl⟩

end Sys2Proof.Machine
